-- ==== Sys2Proof/Word.lean ====
section
/-! DEFINITION. The words of the block: bytes, 32-bit operands, and the raw event a port carries
(spec/00_scope.md R7, R9; spec/30_encoding.md R70, R72). -/

namespace Sys2Proof

/-- One byte of a port, a packet or the receive buffer (spec/00_scope.md R10). -/
abbrev Byte := BitVec 8

/-- A 32-bit operand `a`, `b` of a request, a time `now`, or a response (spec/00_scope.md R9). -/
abbrev Word := BitVec 32

/-- One event as it stands on the ports, before any decoding: the four kinds of spec/00_scope.md R7.
`cmd` carries the 80-bit request word of spec/30_encoding.md R70, `rxByte` the byte of the receive
port, `pollCheck` the millisecond count, `reset` nothing (R72). -/
inductive Event where
  | cmd (request : BitVec 80)
  | rxByte (b : Byte)
  | pollCheck (now : Word)
  | reset
deriving DecidableEq, Repr

end Sys2Proof
end

