-- ==== Sys2Proof/Config.lean ====
section
/-! DEFINITION. The parameters of spec/00_scope.md R5: those whose value the spec fixes as constants,
those a model takes as arguments as the fields of `Config`. -/

namespace Sys2Proof

/-- `ADDR_BASE`: address byte of camera index 0 (spec/00_scope.md R5, spec/30_encoding.md R76). -/
abbrev addrBase : Byte := 0x81

/-- `TERM`: the packet and frame terminator (spec/00_scope.md R5). -/
abbrev termByte : Byte := 0xFF

/-- `RX_START`: the reply start marker (spec/00_scope.md R5, spec/30_encoding.md R84). -/
abbrev startByte : Byte := 0x90

/-- `SPEED_MAX`: the largest speed byte (spec/00_scope.md R5). -/
abbrev speedMax : Nat := 31

/-- `SPEED_IN_FULL`: the input magnitude that maps to `SPEED_MAX` (spec/00_scope.md R5). -/
abbrev speedInFull : Nat := 100

/-- The parameters a model takes as arguments (spec/00_scope.md R5; 92_eei_decisions.md D11, D25).
The four ceilings are 16 bits wide, which is their constraint 0 to 65535. No event writes one
(spec/10_state.md R32). DESIGN CHOICE, notes/assumptions/1.md and 2.md. -/
structure Config where
  nCameras : Nat
  rxCap : Nat
  pollIntervalMs : Nat
  panMax : BitVec 16
  tiltMax : BitVec 16
  zoomMax : BitVec 16
  focusMax : BitVec 16
deriving DecidableEq, Repr

/-- The constraints of spec/00_scope.md R5 on every instantiation: 1 ≤ `N_CAMERAS` ≤ 7 and
`RX_CAP` ≥ 2. -/
abbrev Config.legal (c : Config) : Prop :=
  1 ≤ c.nCameras ∧ c.nCameras ≤ 7 ∧ 2 ≤ c.rxCap

/-- `TESTCFG` of spec/00_scope.md R6. -/
def Config.testCfg : Config where
  nCameras := 7
  rxCap := 17
  pollIntervalMs := 1000
  panMax := 1023
  tiltMax := 1023
  zoomMax := 2305
  focusMax := 1023

end Sys2Proof
end

