-- ==== Sys2Proof/Syntax.lean ====
section
/-! DEFINITION. The operations of the block, one constructor per row of spec/opcode_table.json, in the
table's order, each with the operands that row uses (spec/30_encoding.md R70, R71, R84, R91). -/

namespace Sys2Proof

/-- One operation. A `CMD` constructor's first field is the camera index `cam`, then the operands
`a` and `b` where the row uses them; an operand field a row does not use has no effect and is not
held (spec/30_encoding.md R70; notes/assumptions/12.md). The three `RXBYTE` rows are the byte classes
of R84. -/
inductive Instr where
  /-- `BLINK led, mode, cam=c` (R130). -/
  | blink (cam : Byte) (led mode : Word)
  /-- `FLIP t, cam=c` (R131). -/
  | flip (cam : Byte) (t : Word)
  /-- `MIRROR t, cam=c` (R132). -/
  | mirror (cam : Byte) (t : Word)
  /-- `BACKLIGHT t, cam=c` (R133). -/
  | backlight (cam : Byte) (t : Word)
  /-- `MOTION_DETECT t, cam=c` (R134). -/
  | motionDetect (cam : Byte) (t : Word)
  /-- `WHITE_BALANCE v, cam=c` (R140). -/
  | whiteBalance (cam : Byte) (v : Word)
  /-- `IRIS v, cam=c` (R141). -/
  | iris (cam : Byte) (v : Word)
  /-- `REL_MOVE dx, dy, cam=c` (R150). -/
  | relMove (cam : Byte) (dx dy : Word)
  /-- `ABS_MOVE cam=c` (R155). -/
  | absMove (cam : Byte)
  /-- `INQUIRE_ALL` (R165). -/
  | inquireAll
  /-- `SET_PAN v, cam=c` (R110). -/
  | setPan (cam : Byte) (v : Word)
  /-- `SET_TILT v, cam=c` (R111). -/
  | setTilt (cam : Byte) (v : Word)
  /-- `SET_ZOOM v, cam=c` (R112). -/
  | setZoom (cam : Byte) (v : Word)
  /-- `SET_FOCUS v, cam=c` (R113). -/
  | setFocus (cam : Byte) (v : Word)
  /-- `GET_PAN cam=c` (R114). -/
  | getPan (cam : Byte)
  /-- `GET_TILT cam=c` (R115). -/
  | getTilt (cam : Byte)
  /-- `GET_ZOOM cam=c` (R116). -/
  | getZoom (cam : Byte)
  /-- `GET_FOCUS cam=c` (R117). -/
  | getFocus (cam : Byte)
  /-- `RXBYTE 0x90` (R172, R174). -/
  | rxStart
  /-- `RXBYTE 0xFF` (R173, R176, R177). -/
  | rxTerm
  /-- `RXBYTE b`, `b` neither 0x90 nor 0xFF (R173, R175, R176). -/
  | rxData (b : Byte)
  /-- `POLL_CHECK now` (R206). -/
  | pollCheck (now : Word)
  /-- `RESET` (R220). -/
  | reset
deriving DecidableEq, Repr

end Sys2Proof
end

