-- ==== Sys2Proof/WellFormed.lean ====
section
/-! DEFINITION. Which terms of `Instr` an encoding exists for (spec/30_encoding.md R84, R88, R89). -/

namespace Sys2Proof

/-- A term is well formed when some event of the ports encodes it. No operand value is illegal (R89)
and an out-of-range camera index is an operation that raises `IllegalCam` when it runs (R192), so the
only check is the byte class of R84: the byte of `RX_DATA` is neither `RX_START` nor `RX_TERM`. -/
def Instr.wellFormed : Instr → Bool
  | .blink _ _ _ => true
  | .flip _ _ => true
  | .mirror _ _ => true
  | .backlight _ _ => true
  | .motionDetect _ _ => true
  | .whiteBalance _ _ => true
  | .iris _ _ => true
  | .relMove _ _ _ => true
  | .absMove _ => true
  | .inquireAll => true
  | .setPan _ _ => true
  | .setTilt _ _ => true
  | .setZoom _ _ => true
  | .setFocus _ _ => true
  | .getPan _ => true
  | .getTilt _ => true
  | .getZoom _ => true
  | .getFocus _ => true
  | .rxStart => true
  | .rxTerm => true
  | .rxData b => decide (b ≠ startByte) && decide (b ≠ termByte)
  | .pollCheck _ => true
  | .reset => true

end Sys2Proof
end

