-- ==== Sys2Proof/Decode.lean ====
section
/-! DEFINITION. The decoder, from an event on the ports to an operation, and the encoder, both from the
tables of spec/30_encoding.md (R70, R71, R72, R84). -/

namespace Sys2Proof

/-- Why an event has no operation. -/
inductive DecodeError where
  /-- An `op` byte that spec/30_encoding.md R71 leaves unassigned (R88). The step takes the error
  `IllegalOp` of spec/60_exceptions.md R191; safe. -/
  | illegalOp (op : Byte)
deriving DecidableEq, Repr

/-- Bits 79:72 of a request word: the operation code (R70). -/
def reqOp (w : BitVec 80) : Byte := w.extractLsb' 72 8

/-- Bits 71:64 of a request word: the camera index (R70). -/
def reqCam (w : BitVec 80) : Byte := w.extractLsb' 64 8

/-- Bits 63:32 of a request word: the first operand (R70). -/
def reqA (w : BitVec 80) : Word := w.extractLsb' 32 32

/-- Bits 31:0 of a request word: the second operand (R70). -/
def reqB (w : BitVec 80) : Word := w.extractLsb' 0 32

/-- A request word from its four fields (R70). -/
def request (op cam : Byte) (a b : Word) : BitVec 80 := op ++ cam ++ a ++ b

/-- The operation of a request, by its code (R71); every other code is `illegalOp` (R88). -/
def decodeRequest (w : BitVec 80) : Except DecodeError Instr :=
  match (reqOp w).toNat with
  | 0x00 => .ok (.blink (reqCam w) (reqA w) (reqB w))
  | 0x01 => .ok (.flip (reqCam w) (reqA w))
  | 0x02 => .ok (.mirror (reqCam w) (reqA w))
  | 0x03 => .ok (.backlight (reqCam w) (reqA w))
  | 0x04 => .ok (.motionDetect (reqCam w) (reqA w))
  | 0x05 => .ok (.whiteBalance (reqCam w) (reqA w))
  | 0x06 => .ok (.iris (reqCam w) (reqA w))
  | 0x07 => .ok (.relMove (reqCam w) (reqA w) (reqB w))
  | 0x08 => .ok (.absMove (reqCam w))
  | 0x09 => .ok .inquireAll
  | 0x10 => .ok (.setPan (reqCam w) (reqA w))
  | 0x11 => .ok (.setTilt (reqCam w) (reqA w))
  | 0x12 => .ok (.setZoom (reqCam w) (reqA w))
  | 0x13 => .ok (.setFocus (reqCam w) (reqA w))
  | 0x14 => .ok (.getPan (reqCam w))
  | 0x15 => .ok (.getTilt (reqCam w))
  | 0x16 => .ok (.getZoom (reqCam w))
  | 0x17 => .ok (.getFocus (reqCam w))
  | _ => .error (.illegalOp (reqOp w))

/-- The class of a received byte (R84). -/
def decodeRxByte (b : Byte) : Instr :=
  if b = startByte then .rxStart
  else if b = termByte then .rxTerm
  else .rxData b

/-- The operation an event asks for; total, refusing an unassigned code by name. -/
def decode : Event → Except DecodeError Instr
  | .cmd w => decodeRequest w
  | .rxByte b => .ok (decodeRxByte b)
  | .pollCheck now => .ok (.pollCheck now)
  | .reset => .ok .reset

/-- The event that carries an operation (R70, R71, R72, R84). Operand fields the row does not use,
which may hold any value (R70), are written as zero. -/
def encode : Instr → Event
  | .blink cam led mode => .cmd (request 0x00 cam led mode)
  | .flip cam t => .cmd (request 0x01 cam t 0)
  | .mirror cam t => .cmd (request 0x02 cam t 0)
  | .backlight cam t => .cmd (request 0x03 cam t 0)
  | .motionDetect cam t => .cmd (request 0x04 cam t 0)
  | .whiteBalance cam v => .cmd (request 0x05 cam v 0)
  | .iris cam v => .cmd (request 0x06 cam v 0)
  | .relMove cam dx dy => .cmd (request 0x07 cam dx dy)
  | .absMove cam => .cmd (request 0x08 cam 0 0)
  | .inquireAll => .cmd (request 0x09 0 0 0)
  | .setPan cam v => .cmd (request 0x10 cam v 0)
  | .setTilt cam v => .cmd (request 0x11 cam v 0)
  | .setZoom cam v => .cmd (request 0x12 cam v 0)
  | .setFocus cam v => .cmd (request 0x13 cam v 0)
  | .getPan cam => .cmd (request 0x14 cam 0 0)
  | .getTilt cam => .cmd (request 0x15 cam 0 0)
  | .getZoom cam => .cmd (request 0x16 cam 0 0)
  | .getFocus cam => .cmd (request 0x17 cam 0 0)
  | .rxStart => .rxByte startByte
  | .rxTerm => .rxByte termByte
  | .rxData b => .rxByte b
  | .pollCheck now => .pollCheck now
  | .reset => .reset

/-- The event whose encoding is the `nbits` bits of `w`: 80 bits are a request word, 8 a received
byte, 32 a time, and no bits the reset input, which has no operand (R70, R72).
DESIGN CHOICE, notes/assumptions/11.md. -/
def eventOfBits (nbits w : Nat) : Option Event :=
  match nbits with
  | 80 => some (.cmd (BitVec.ofNat 80 w))
  | 8 => some (.rxByte (BitVec.ofNat 8 w))
  | 32 => some (.pollCheck (BitVec.ofNat 32 w))
  | 0 => some .reset
  | _ => none

/-- The operation the decoder reads from the bits `w` of a row of spec/opcode_table.json. -/
def decodeTableWord (nbits w : Nat) : Option Instr :=
  match eventOfBits nbits w with
  | some e =>
    match decode e with
    | .ok i => some i
    | .error _ => none
  | none => none

end Sys2Proof
end

