-- ==== Sys2Proof/Machine/Params.lean ====
section
/-! DEFINITION. The parameters of spec/00_scope.md R5 that are computed from the others: the reset values
of CameraState. -/

namespace Sys2Proof.Machine

/-- `PAN_INIT`: the midpoint, `PAN_MAX div 2` (spec/10_state.md R21). -/
def panInit (c : Config) : BitVec 16 := c.panMax / 2

/-- `TILT_INIT`: `TILT_MAX div 2` (spec/10_state.md R22). -/
def tiltInit (c : Config) : BitVec 16 := c.tiltMax / 2

/-- `ZOOM_INIT`: 0 (spec/10_state.md R23). -/
def zoomInit (_ : Config) : BitVec 16 := 0

/-- `FOCUS_INIT`: -1, auto focus (spec/10_state.md R24). -/
def focusInit (_ : Config) : BitVec 17 := BitVec.ofInt 17 (-1)

end Sys2Proof.Machine
end

