-- ==== Sys2Proof/Machine/State.lean ====
section
/-! DEFINITION. The state of the block (spec/10_state.md), the outputs of an event (spec/00_scope.md R8),
the reasons a step can stop, and the state after reset. -/

namespace Sys2Proof.Machine

/-- One CameraState instance: four registers (spec/10_state.md R20 to R24). `focus` is 17 bits
signed, the others 16 bits unsigned. -/
structure Camera where
  pan : BitVec 16
  tilt : BitVec 16
  zoom : BitVec 16
  focus : BitVec 17
deriving DecidableEq, Repr

/-- The two states of the FrameAssembler (spec/10_state.md R27). -/
inductive RxState where
  | idle
  | receiving
deriving DecidableEq, Repr

/-- The encoding of the FrameAssembler's state: `Idle` = 0, `Receiving` = 1 (spec/10_state.md R27). -/
def RxState.code : RxState → BitVec 1
  | .idle => 0
  | .receiving => 1

/-- The three error conditions of spec/60_exceptions.md R190. Each is an outcome after which the block
goes on. -/
inductive BlockError where
  | illegalOp
  | illegalCam
  | rxOverflow
deriving DecidableEq, Repr

/-- What a frame event hands to the host: `FRAME(bytes, len, fwd)` (spec/60_exceptions.md R195). -/
structure Frame where
  bytes : List Byte
  len : Nat
  fwd : Bool
deriving DecidableEq, Repr

/-- The outputs of one event (spec/00_scope.md R8): the bytes it passes to `TX`, the frame it hands
over, the value on the response port (`none` where `rsp_valid` gives no pulse), its error.
DESIGN CHOICE, notes/assumptions/4.md. -/
structure Outputs where
  tx : List Byte
  frame : Option Frame
  rsp : Option Word
  err : Option BlockError
deriving DecidableEq, Repr

/-- The outputs of an event that gives none. -/
def Outputs.quiet : Outputs := { tx := [], frame := none, rsp := none, err := none }

/-- The state. `cs` to `lastPoll` are the spec's (spec/10_state.md R20 to R31). `cfg`, `inbox`, `out`
and `txSink` are the model's own: the parameters (R32, R36; notes/assumptions/1.md), the events
offered at the ports and not yet executed, in arrival order (notes/assumptions/3.md), the outputs of
the last event and the transmit stream (notes/assumptions/4.md). -/
structure State where
  /-- The parameters of the block; no event writes them. -/
  cfg : Config
  /-- The CameraState register file, by camera index (R20). -/
  cs : List Camera
  /-- `rx_state` (R27). -/
  rxState : RxState
  /-- `rx_idx` (R28): 0 to `RX_CAP`, never wraps (notes/assumptions/7.md). -/
  rxIdx : Nat
  /-- `rxbuf[0]` to `rxbuf[RX_CAP-1]` (R29). -/
  rxbuf : List Byte
  /-- `status` (R30): bit 0 `err_op`, bit 1 `err_cam`, bit 2 `rx_ovf`. -/
  status : BitVec 3
  /-- `last_poll` (R31). -/
  lastPoll : Word
  /-- Events that have arrived and wait to be executed, first first. -/
  inbox : List Event
  /-- Outputs of the last event. -/
  out : Outputs
  /-- Every byte ever passed to `TX`, in order. -/
  txSink : List Byte
deriving DecidableEq, Repr

/-- Why a step stops. -/
inductive Fault where
  /-- Raised by `step` alone, in a state that is no state of a block of spec/00_scope.md R5: a
  parameter outside its constraint, or a register file or receive buffer of the wrong length. No
  event leads there. Safe: a machine outside the spec has no step (notes/assumptions/10.md). -/
  | malformedState
deriving DecidableEq, Repr

/-- Why an operation has no meaning. -/
inductive Refusal where
  /-- Raised by an arm of `exec` whose operation has no meaning yet; no arm raises it. Safe. -/
  | notModelled (mnemonic : String)
deriving DecidableEq, Repr

/-- One camera's registers after reset (spec/10_state.md R37). -/
def Camera.atReset (c : Config) : Camera where
  pan := panInit c
  tilt := tiltInit c
  zoom := zoomInit c
  focus := focusInit c

/-- The block of configuration `c` right after power-up and `RESET` (spec/10_state.md R37). `rxbuf` is
unspecified there: zero bytes, DESIGN CHOICE, notes/assumptions/6.md. -/
def State.resetWith (c : Config) : State where
  cfg := c
  cs := List.replicate c.nCameras (Camera.atReset c)
  rxState := .idle
  rxIdx := 0
  rxbuf := List.replicate c.rxCap 0
  status := 0
  lastPoll := 0
  inbox := []
  out := .quiet
  txSink := []

/-- The state after reset under the test configuration `TESTCFG` of spec/00_scope.md R6, from which
every vector of spec/95_test_vectors.md starts. DESIGN CHOICE of the configuration,
notes/assumptions/1.md: `State.resetWith` is the reset of every other one. -/
def State.reset : State := State.resetWith Config.testCfg

end Sys2Proof.Machine
end

