-- ==== Sys2Proof/Machine/Flags.lean ====
section
/-! DEFINITION. The sticky status bits, the only flags of the block (spec/10_state.md R30, R33), and the
error code of the response port. -/

namespace Sys2Proof.Machine

/-- The `status` bit an error sets (spec/10_state.md R30). -/
def BlockError.statusBit : BlockError → BitVec 3
  | .illegalOp => 0b001
  | .illegalCam => 0b010
  | .rxOverflow => 0b100

/-- The code of an error (spec/60_exceptions.md R190). -/
def BlockError.code : BlockError → Nat
  | .illegalOp => 1
  | .illegalCam => 2
  | .rxOverflow => 3

/-- `status.err_op` (spec/10_state.md R30). -/
def State.errOp (s : State) : Bool := s.status.getLsbD 0

/-- `status.err_cam` (spec/10_state.md R30). -/
def State.errCam (s : State) : Bool := s.status.getLsbD 1

/-- `status.rx_ovf` (spec/10_state.md R30). -/
def State.rxOvf (s : State) : Bool := s.status.getLsbD 2

/-- Sets an error's sticky bit and leaves the other two (spec/10_state.md R30). -/
def State.setStatus (s : State) (e : BlockError) : State :=
  { s with status := s.status ||| e.statusBit }

/-- The `rsp_err` port: 0 none, 1 `IllegalOp`, 2 `IllegalCam` (spec/00_scope.md R9). `RxOverflow` has
no response channel (spec/60_exceptions.md R193). -/
def Outputs.rspErr (o : Outputs) : BitVec 2 :=
  match o.err with
  | some .illegalOp => 1
  | some .illegalCam => 2
  | some .rxOverflow => 0
  | none => 0

end Sys2Proof.Machine
end

