-- ==== Sys2Proof/Machine/Operands.lean ====
section
/-! DEFINITION. The pure helpers every operation is built from (spec/40_nibble_codec.md R100 to R107,
spec/00_scope.md R11). -/

namespace Sys2Proof.Machine

/-- The 4-bit group of `u` that starts at bit `k`, in the low half of a byte (spec/20_memory.md R51). -/
def nibble (u : BitVec 16) (k : Nat) : Byte := ((u >>> k) &&& 0xF#16).setWidth 8

/-- `toNibbles(v)` (R100): the low 16 bits of `v` as four nibble bytes, most significant first. -/
def toNibbles (v : Int) : List Byte :=
  let u := BitVec.ofInt 16 v
  [nibble u 12, nibble u 8, nibble u 4, nibble u 0]

/-- `addrByte(c) = 0x81 + c` (R102); called only with `c` below `N_CAMERAS`. -/
def addrByte (c : Nat) : Byte := addrBase + BitVec.ofNat 8 c

/-- `wrap(body, c)` (R103): address byte, body, terminator. -/
def wrap (body : List Byte) (c : Nat) : List Byte := [addrByte c] ++ body ++ [termByte]

/-- `boolTrue(a)` (R104). -/
def boolTrue (a : Word) : Bool := decide (a ≠ 0)

/-- `onOff(a)` (R104): the on/off byte of `FLIP`, `MIRROR`, `BACKLIGHT`. -/
def onOff (a : Word) : Byte := if boolTrue a then 0x02 else 0x03

/-- `flag01(a)` (R104): the flag byte of `MOTION_DETECT`. -/
def flag01 (a : Word) : Byte := if boolTrue a then 0x01 else 0x00

/-- The auto sentinel of `WHITE_BALANCE` and `IRIS`: `a <= -1` as a signed operand
(spec/43_parameter_commands.md R142). -/
def isAuto (a : Word) : Bool := decide (a.toInt ≤ -1)

/-- `speed(d) = min(31, (abs(d) * 31 + 50) div 100)` (R105), on unbounded integers. -/
def speed (d : Int) : Byte :=
  BitVec.ofNat 8 (min speedMax ((d.natAbs * speedMax + 50) / speedInFull))

/-- `dir(d)` (R106): 0x02 for a positive, 0x01 for a negative operand, 0x03 for zero. -/
def dir (d : Int) : Byte := if d > 0 then 0x02 else if d < 0 then 0x01 else 0x03

/-- `clamp(v, lo, hi)` (spec/00_scope.md R11). -/
def clamp (v lo hi : Int) : Int := if v < lo then lo else if v > hi then hi else v

/-- The low byte `a[7:0]` of an operand (spec/30_encoding.md R81). -/
def lowByte (a : Word) : Byte := a.extractLsb' 0 8

end Sys2Proof.Machine
end

