-- ==== Sys2Proof/Machine/Ops.lean ====
section
/-! DEFINITION. The named operations over the state: register file access, the outputs of an event, the
camera check, and the one operation that raises an error (spec/00_scope.md R11,
spec/60_exceptions.md R190). -/

namespace Sys2Proof.Machine

/-- What a step of the block answers. -/
abbrev Result := Host.Outcome State Fault Refusal

/-- The state is one of a block that spec/00_scope.md R5 and spec/10_state.md R20, R29 describe: legal
parameters, one CameraState per camera index, `RX_CAP` buffer bytes. -/
abbrev State.shaped (s : State) : Prop :=
  s.cfg.legal ∧ s.cs.length = s.cfg.nCameras ∧ s.rxbuf.length = s.cfg.rxCap

/-- The CameraState instance of camera index `c` (spec/10_state.md R20). In a shaped state an index
below `N_CAMERAS` is in the file; the default is never read there. -/
def State.camera (s : State) (c : Nat) : Camera := s.cs.getD c (Camera.atReset s.cfg)

/-- Writes the CameraState instance of camera index `c` (spec/10_state.md R20). -/
def State.setCamera (s : State) (c : Nat) (k : Camera) : State := { s with cs := s.cs.set c k }

/-- Ends an event with outputs `o`: the port values become `o`, and its bytes are appended to the
transmit sink, in order and contiguously (`TX` of spec/00_scope.md R11; spec/20_memory.md R56). -/
def State.finish (s : State) (o : Outputs) : State :=
  { s with out := o, txSink := s.txSink ++ o.tx }

/-- Ends a `CMD` event that passes `bytes` to `TX`; the response port carries 0
(spec/42_simple_commands.md R135). -/
def State.sendBurst (s : State) (bytes : List Byte) : State :=
  s.finish { Outputs.quiet with tx := bytes, rsp := some 0 }

/-- Ends a `CMD` event that puts `v` on the response port: `RSP(v)` (spec/00_scope.md R11). -/
def State.respond (s : State) (v : Word) : State :=
  s.finish { Outputs.quiet with rsp := some v }

/-- What the response port carries at an error: 0 for the two errors of a `CMD` (spec/60_exceptions.md
R191, R192), no response for `RxOverflow`, which the receive port cannot answer (R193). -/
def BlockError.response : BlockError → Option Word
  | .illegalOp => some 0
  | .illegalCam => some 0
  | .rxOverflow => none

/-- TAKING AN ERROR, the block's exception (spec/60_exceptions.md R190, R197): the event ends, the
sticky bit is set, the error is reported, nothing is transmitted, no frame is handed over, and nothing
is saved. What else an error changes is written by the rule that raises it. There is no return
operation (R198). -/
def State.raiseError (s : State) (e : BlockError) : State :=
  (s.setStatus e).finish { Outputs.quiet with rsp := e.response, err := some e }

/-- The check every operation with a camera operand makes first (spec/41_camera_state.md R118,
spec/42_simple_commands.md R135): `IllegalCam` when `cam >= N_CAMERAS` (spec/60_exceptions.md R192),
else the operation's effect on camera index `cam`. -/
def State.withCamera (s : State) (cam : Byte) (effect : Nat → State) : State :=
  if cam.toNat < s.cfg.nCameras then effect cam.toNat else s.raiseError .illegalCam

/-- No event is offered: the block holds its state and its output pulses are over
(spec/60_exceptions.md R213; DEDUCED, notes/assumptions/5.md). -/
def State.idle (s : State) : State := s.finish .quiet

end Sys2Proof.Machine
end

