-- ==== Sys2Proof/Machine/CameraState.lean ====
section
/-! DEFINITION. The setters and getters of CameraState (spec/41_camera_state.md R110 to R119). -/

namespace Sys2Proof.Machine

/-- The pan register with value `clamp(a, 0, PAN_MAX)` (R110). -/
def clampPan (c : Config) (a : Word) : BitVec 16 :=
  BitVec.ofInt 16 (clamp a.toInt 0 c.panMax.toNat)

/-- The tilt register with value `clamp(a, 0, TILT_MAX)` (R111). -/
def clampTilt (c : Config) (a : Word) : BitVec 16 :=
  BitVec.ofInt 16 (clamp a.toInt 0 c.tiltMax.toNat)

/-- The zoom register with value `clamp(a, 0, ZOOM_MAX)` (R112). -/
def clampZoom (c : Config) (a : Word) : BitVec 16 :=
  BitVec.ofInt 16 (clamp a.toInt 0 c.zoomMax.toNat)

/-- The focus register with value `clamp(a, -1, FOCUS_MAX)` (R113). -/
def clampFocus (c : Config) (a : Word) : BitVec 17 :=
  BitVec.ofInt 17 (clamp a.toInt (-1) c.focusMax.toNat)

/-- Ends a setter: the instance is stored, nothing is transmitted and `rsp_data` is 0 (R118). -/
def State.storeCamera (s : State) (c : Nat) (k : Camera) : State := (s.setCamera c k).sendBurst []

/-- `SET_PAN a, cam=c` (R110). -/
def execSetPan (cam : Byte) (a : Word) (s : State) : Result :=
  .next (s.withCamera cam fun c => s.storeCamera c { s.camera c with pan := clampPan s.cfg a })

/-- `SET_TILT a, cam=c` (R111). -/
def execSetTilt (cam : Byte) (a : Word) (s : State) : Result :=
  .next (s.withCamera cam fun c => s.storeCamera c { s.camera c with tilt := clampTilt s.cfg a })

/-- `SET_ZOOM a, cam=c` (R112). -/
def execSetZoom (cam : Byte) (a : Word) (s : State) : Result :=
  .next (s.withCamera cam fun c => s.storeCamera c { s.camera c with zoom := clampZoom s.cfg a })

/-- `SET_FOCUS a, cam=c` (R113). -/
def execSetFocus (cam : Byte) (a : Word) (s : State) : Result :=
  .next (s.withCamera cam fun c => s.storeCamera c { s.camera c with focus := clampFocus s.cfg a })

/-- `GET_PAN cam=c` (R114): the unsigned register as a signed 32-bit value
(DEDUCED, notes/assumptions/13.md). -/
def execGetPan (cam : Byte) (s : State) : Result :=
  .next (s.withCamera cam fun c => s.respond ((s.camera c).pan.setWidth 32))

/-- `GET_TILT cam=c` (R115). -/
def execGetTilt (cam : Byte) (s : State) : Result :=
  .next (s.withCamera cam fun c => s.respond ((s.camera c).tilt.setWidth 32))

/-- `GET_ZOOM cam=c` (R116). -/
def execGetZoom (cam : Byte) (s : State) : Result :=
  .next (s.withCamera cam fun c => s.respond ((s.camera c).zoom.setWidth 32))

/-- `GET_FOCUS cam=c` (R117): the signed register, sign-extended to 32 bits (R118). -/
def execGetFocus (cam : Byte) (s : State) : Result :=
  .next (s.withCamera cam fun c => s.respond ((s.camera c).focus.signExtend 32))

end Sys2Proof.Machine
end

