-- ==== Sys2Proof/Machine/FrameAssembler.lean ====
section
/-! DEFINITION. The FrameAssembler and the reply filter (spec/46_frame_assembler.md R170 to R182). -/

namespace Sys2Proof.Machine

/-- The assembler back in `Idle`, with `rx_idx` 0 (R176, R177). -/
def State.toIdle (s : State) : State := { s with rxState := .idle, rxIdx := 0 }

/-- A start marker, in either state: a frame starts with it (R172, R174). -/
def State.startFrame (s : State) : State :=
  { s with rxbuf := s.rxbuf.set 0 startByte, rxIdx := 1, rxState := .receiving }

/-- A byte stored at index `rx_idx`, which moves on by one (R175). -/
def State.appendByte (s : State) (b : Byte) : State :=
  { s with rxbuf := s.rxbuf.set s.rxIdx b, rxIdx := s.rxIdx + 1 }

/-- The reply filter: the forward flag of a frame of `n` bytes, low exactly for the three bytes
`90 50 FF` (R178). -/
def forwards (bytes : List Byte) (n : Nat) : Bool :=
  !(decide (n = 3) && decide (bytes = [0x90, 0x50, 0xFF]))

/-- The frame of the first `rx_idx` buffer bytes (R177). -/
def State.frameOf (s : State) : Frame where
  bytes := s.rxbuf.take s.rxIdx
  len := s.rxIdx
  fwd := forwards (s.rxbuf.take s.rxIdx) s.rxIdx

/-- Hands the complete frame over and returns to `Idle` (R177). -/
def State.completeFrame (s : State) : State :=
  s.toIdle.finish { Outputs.quiet with frame := some s.frameOf }

/-- `RXBYTE b`, the whole operation, its tests in the order of R170 and R171: start marker, state,
buffer full, append, terminator. -/
def State.rxByte (s : State) (b : Byte) : State :=
  if b = startByte then s.startFrame.finish .quiet
  else
    match s.rxState with
    | .idle => s.finish .quiet
    | .receiving =>
      if s.rxIdx = s.cfg.rxCap then s.toIdle.raiseError .rxOverflow
      else if b = termByte then (s.appendByte b).completeFrame
      else (s.appendByte b).finish .quiet

/-- `RX_START`, the byte 0x90 (R172, R174). -/
def execRxStart (s : State) : Result := .next (s.rxByte startByte)

/-- `RX_TERM`, the byte 0xFF (R173, R176, R177). -/
def execRxTerm (s : State) : Result := .next (s.rxByte termByte)

/-- `RX_DATA`, any other byte (R173, R175, R176). On an ill-formed term, whose byte is no data byte,
this is R170 for that byte (DESIGN CHOICE, notes/assumptions/16.md). -/
def execRxData (b : Byte) (s : State) : Result := .next (s.rxByte b)

end Sys2Proof.Machine
end

