-- ==== Sys2Proof/Machine/MotionCommands.lean ====
section
/-! DEFINITION. The motion commands (spec/44_motion_commands.md R150 to R157). -/

namespace Sys2Proof.Machine

/-- `REL_MOVE dx, dy, cam=c` (R150): a fixed packet, then speeds and directions. -/
def execRelMove (cam : Byte) (dx dy : Word) (s : State) : Result :=
  .next (s.withCamera cam fun c => s.sendBurst
    (wrap [0x01, 0x06, 0x01, 0x00, 0x00, 0x03, 0x03] c
      ++ wrap [0x01, 0x06, 0x01, speed dx.toInt, speed dy.toInt, dir dx.toInt, dir dy.toInt] c))

/-- `ABS_MOVE cam=c` (R155): focus mode, stop, absolute position; the four parameters in the order
pan, tilt, zoom, focus (spec/20_memory.md R52). -/
def execAbsMove (cam : Byte) (s : State) : Result :=
  .next (s.withCamera cam fun c =>
    let k := s.camera c
    s.sendBurst
      (wrap [0x01, 0x04, 0x38, if k.focus.toInt = -1 then 0x02 else 0x03] c
        ++ wrap [0x01, 0x06, 0x01, 0x03, 0x03, 0x03, 0x03] c
        ++ wrap ([0x01, 0x06, 0x20] ++ toNibbles k.pan.toNat ++ toNibbles k.tilt.toNat
            ++ toNibbles k.zoom.toNat ++ toNibbles k.focus.toInt) c))

end Sys2Proof.Machine
end

