-- ==== Sys2Proof/Machine/ParameterCommands.lean ====
section
/-! DEFINITION. The mode-plus-value commands (spec/43_parameter_commands.md R140 to R142): a mode-set
packet and a value packet in one burst, both always sent. -/

namespace Sys2Proof.Machine

/-- `WHITE_BALANCE v, cam=c` (R140). -/
def execWhiteBalance (cam : Byte) (v : Word) (s : State) : Result :=
  .next (s.withCamera cam fun c => s.sendBurst
    (wrap [0x01, 0x04, 0x35, if isAuto v then 0x00 else 0x06] c
      ++ wrap ([0x01, 0x04, 0x75] ++ toNibbles v.toInt) c))

/-- `IRIS v, cam=c` (R141). -/
def execIris (cam : Byte) (v : Word) (s : State) : Result :=
  .next (s.withCamera cam fun c => s.sendBurst
    (wrap [0x01, 0x04, 0x39, if isAuto v then 0x00 else 0x03] c
      ++ wrap ([0x01, 0x04, 0x4B] ++ toNibbles v.toInt) c))

end Sys2Proof.Machine
end

