-- ==== Sys2Proof/Machine/SimpleCommands.lean ====
section
/-! DEFINITION. The single-packet commands (spec/42_simple_commands.md R130 to R135). -/

namespace Sys2Proof.Machine

/-- `BLINK led, mode, cam=c` (R130): the low bytes of both operands, passed through. -/
def execBlink (cam : Byte) (led mode : Word) (s : State) : Result :=
  .next (s.withCamera cam fun c => s.sendBurst (wrap [0x01, 0x33, lowByte led, lowByte mode] c))

/-- `FLIP t, cam=c` (R131). -/
def execFlip (cam : Byte) (t : Word) (s : State) : Result :=
  .next (s.withCamera cam fun c => s.sendBurst (wrap [0x01, 0x04, 0x66, onOff t] c))

/-- `MIRROR t, cam=c` (R132). -/
def execMirror (cam : Byte) (t : Word) (s : State) : Result :=
  .next (s.withCamera cam fun c => s.sendBurst (wrap [0x01, 0x04, 0x61, onOff t] c))

/-- `BACKLIGHT t, cam=c` (R133). -/
def execBacklight (cam : Byte) (t : Word) (s : State) : Result :=
  .next (s.withCamera cam fun c => s.sendBurst (wrap [0x01, 0x04, 0x33, 0x02, onOff t] c))

/-- `MOTION_DETECT t, cam=c` (R134). -/
def execMotionDetect (cam : Byte) (t : Word) (s : State) : Result :=
  .next (s.withCamera cam fun c => s.sendBurst (wrap [0x01, 0x50, 0x30, 0x01, flag01 t] c))

end Sys2Proof.Machine
end

