-- ==== Sys2Proof/Machine/Inquiry.lean ====
section
/-! DEFINITION. The inquiry burst (spec/45_inquiry.md R165, R166). -/

namespace Sys2Proof.Machine

/-- The byte list of `INQUIRE_ALL`: one packet per camera index, ascending, back to back (R165). -/
def inquiryBurst (nCameras : Nat) : List Byte :=
  (List.range nCameras).flatMap fun c => wrap [0x09, 0x06, 0x12] c

/-- `INQUIRE_ALL` (R165). No camera operand, so no camera check. -/
def execInquireAll (s : State) : Result := .next (s.sendBurst (inquiryBurst s.cfg.nCameras))

end Sys2Proof.Machine
end

