-- ==== Sys2Proof/Machine/System.lean ====
section
/-! DEFINITION. The system operations: PollScheduler (spec/60_exceptions.md R205 to R209) and reset
(spec/70_reset_and_hazards.md R220). -/

namespace Sys2Proof.Machine

/-- Milliseconds from the last trigger to `now`, modulo 2^32 (spec/60_exceptions.md R206). -/
def State.elapsed (s : State) (now : Word) : Nat := (now - s.lastPoll).toNat

/-- `POLL_CHECK now` (spec/60_exceptions.md R206): when the interval has elapsed, re-arm from `now`
and send the inquiry burst; else nothing. It is no `CMD`, so the response port gives no pulse. -/
def execPollCheck (now : Word) (s : State) : Result :=
  if s.cfg.pollIntervalMs ≤ s.elapsed now then
    .next ({ s with lastPoll := now }.finish
      { Outputs.quiet with tx := inquiryBurst s.cfg.nCameras })
  else .next (s.finish .quiet)

/-- `RESET` (spec/70_reset_and_hazards.md R220): every register at its reset value; `rxbuf` left as it
is; no byte and no frame. The bytes the sink already has are not recalled, and events that arrive later
still arrive. -/
def execReset (s : State) : Result :=
  .next ({ s with
    cs := List.replicate s.cfg.nCameras (Camera.atReset s.cfg)
    rxState := .idle
    rxIdx := 0
    status := 0
    lastPoll := 0 }.finish .quiet)

end Sys2Proof.Machine
end

