-- ==== Sys2Proof/Machine/Dispatch.lean ====
section
/-! DEFINITION. The meaning of every operation: one arm per constructor of `Instr`. -/

namespace Sys2Proof.Machine

def exec (i : Instr) (s : State) : Host.Outcome State Fault Refusal :=
  match i with
  | .blink cam led mode => Sys2Proof.Machine.execBlink cam led mode s
  | .flip cam t => Sys2Proof.Machine.execFlip cam t s
  | .mirror cam t => Sys2Proof.Machine.execMirror cam t s
  | .backlight cam t => Sys2Proof.Machine.execBacklight cam t s
  | .motionDetect cam t => Sys2Proof.Machine.execMotionDetect cam t s
  | .whiteBalance cam v => Sys2Proof.Machine.execWhiteBalance cam v s
  | .iris cam v => Sys2Proof.Machine.execIris cam v s
  | .relMove cam dx dy => Sys2Proof.Machine.execRelMove cam dx dy s
  | .absMove cam => Sys2Proof.Machine.execAbsMove cam s
  | .inquireAll => Sys2Proof.Machine.execInquireAll s
  | .setPan cam v => Sys2Proof.Machine.execSetPan cam v s
  | .setTilt cam v => Sys2Proof.Machine.execSetTilt cam v s
  | .setZoom cam v => Sys2Proof.Machine.execSetZoom cam v s
  | .setFocus cam v => Sys2Proof.Machine.execSetFocus cam v s
  | .getPan cam => Sys2Proof.Machine.execGetPan cam s
  | .getTilt cam => Sys2Proof.Machine.execGetTilt cam s
  | .getZoom cam => Sys2Proof.Machine.execGetZoom cam s
  | .getFocus cam => Sys2Proof.Machine.execGetFocus cam s
  | .rxStart => Sys2Proof.Machine.execRxStart s
  | .rxTerm => Sys2Proof.Machine.execRxTerm s
  | .rxData b => Sys2Proof.Machine.execRxData b s
  | .pollCheck now => Sys2Proof.Machine.execPollCheck now s
  | .reset => Sys2Proof.Machine.execReset s

end Sys2Proof.Machine
end

