-- ==== Sys2Proof/Machine/Fetch.lean ====
section
/-! DEFINITION. Taking the next event from the ports and running it (spec/20_memory.md R60). -/

namespace Sys2Proof.Machine

/-- Runs one event: the operation it decodes to, or the error `IllegalOp` for an unassigned `op`, whose
`cam`, `a` and `b` are not looked at (spec/60_exceptions.md R191, R196). -/
def State.runEvent (s : State) (e : Event) : Result :=
  match decode e with
  | .ok i => exec i s
  | .error (.illegalOp _) => .next (s.raiseError .illegalOp)

/-- The next event in arrival order is taken from the ports and run (spec/20_memory.md R60); with none
offered the block holds its state (spec/60_exceptions.md R213). -/
def State.runNext (s : State) : Result :=
  match s.inbox with
  | [] => .next s.idle
  | e :: rest => { s with inbox := rest }.runEvent e

/-- Offers the event of the `nbits` bits of `w` as the next one to run; a width no port has offers
nothing. -/
def State.offerBits (s : State) (nbits w : Nat) : State :=
  match eventOfBits nbits w with
  | some e => { s with inbox := e :: s.inbox }
  | none => s

end Sys2Proof.Machine
end

