-- ==== Sys2Proof/Machine/Step.lean ====
section
/-! DEFINITION. One step of the block: one event, to completion (spec/00_scope.md R7). -/

namespace Sys2Proof.Machine

/-- One step: the next event runs. A state that is none of a block of spec/00_scope.md R5 faults
(notes/assumptions/10.md). -/
def step (s : State) : Host.Outcome State Fault Refusal :=
  if s.shaped then s.runNext else .fault .malformedState

/-- `s` with the event whose bits are `w` offered as the very next one (notes/assumptions/3.md). -/
def State.withFetchWord (s : State) (nbits w : Nat) : State := s.offerBits nbits w

end Sys2Proof.Machine
end

