-- ==== Sys2Proof/Safety.lean ====
section
/-! DEFINITION. The terms statements about the block use: its invariant, its runs, the shape of its
packets, and the states its events lead to, written out apart from the operations that compute them. -/

namespace Sys2Proof.Machine

/-- The registers of one camera are in their domains (spec/10_state.md R21 to R24). -/
abbrev Camera.inDomain (c : Config) (k : Camera) : Prop :=
  k.pan.toNat ≤ c.panMax.toNat ∧ k.tilt.toNat ≤ c.tiltMax.toNat ∧ k.zoom.toNat ≤ c.zoomMax.toNat ∧
  -1 ≤ k.focus.toInt ∧ k.focus.toInt ≤ c.focusMax.toNat

/-- The byte is payload of a reply frame: neither the start marker nor the terminator
(spec/30_encoding.md R84). -/
abbrev isPayload (b : Byte) : Prop := b ≠ 0x90 ∧ b ≠ 0xFF

/-- The FrameAssembler's invariant (spec/10_state.md R28), with what R174 and R177 add: the partial
frame is one start marker followed by payload bytes. -/
abbrev State.assemblerOk (s : State) : Prop :=
  (s.rxState = .idle → s.rxIdx = 0) ∧
  (s.rxState = .receiving → 1 ≤ s.rxIdx ∧ s.rxIdx ≤ s.cfg.rxCap ∧ s.rxbuf[0]? = some 0x90 ∧
    ∀ b ∈ (s.rxbuf.take s.rxIdx).drop 1, isPayload b)

/-- The invariant of the block: legal parameters, files of the right length, registers in their
domains (spec/10_state.md R20 to R25), the assembler's invariant (R28). -/
abbrev State.Inv (s : State) : Prop :=
  s.shaped ∧ (∀ k ∈ s.cs, k.inDomain s.cfg) ∧ s.assemblerOk

/-- The outputs of the first `n` steps, in order, up to the first that does not answer a next state. -/
def State.trace : Nat → State → List Outputs
  | 0, _ => []
  | n + 1, s =>
    match step s with
    | .next t => t.out :: State.trace n t
    | .fault _ => []
    | .refused _ => []

/-- The two states differ at most in receive buffer bytes at index `rx_idx` and above, which hold no
defined value (spec/10_state.md R29). -/
abbrev State.agreeUpToStale (s t : State) : Prop :=
  t = { s with rxbuf := t.rxbuf } ∧ t.rxbuf.length = s.rxbuf.length ∧
  t.rxbuf.take s.rxIdx = s.rxbuf.take s.rxIdx

/-- The camera operand of an operation, `none` for those that take no camera (spec/30_encoding.md
R71). -/
def cameraOf : Instr → Option Byte
  | .blink c _ _ => some c
  | .flip c _ => some c
  | .mirror c _ => some c
  | .backlight c _ => some c
  | .motionDetect c _ => some c
  | .whiteBalance c _ => some c
  | .iris c _ => some c
  | .relMove c _ _ => some c
  | .absMove c => some c
  | .inquireAll => none
  | .setPan c _ => some c
  | .setTilt c _ => some c
  | .setZoom c _ => some c
  | .setFocus c _ => some c
  | .getPan c => some c
  | .getTilt c => some c
  | .getZoom c => some c
  | .getFocus c => some c
  | .rxStart => none
  | .rxTerm => none
  | .rxData _ => none
  | .pollCheck _ => none
  | .reset => none

/-- The operation is a received byte (spec/30_encoding.md R84). -/
def isRxByte : Instr → Bool
  | .blink _ _ _ => false
  | .flip _ _ => false
  | .mirror _ _ => false
  | .backlight _ _ => false
  | .motionDetect _ _ => false
  | .whiteBalance _ _ => false
  | .iris _ _ => false
  | .relMove _ _ _ => false
  | .absMove _ => false
  | .inquireAll => false
  | .setPan _ _ => false
  | .setTilt _ _ => false
  | .setZoom _ _ => false
  | .setFocus _ _ => false
  | .getPan _ => false
  | .getTilt _ => false
  | .getZoom _ => false
  | .getFocus _ => false
  | .rxStart => true
  | .rxTerm => true
  | .rxData _ => true
  | .pollCheck _ => false
  | .reset => false

/-- The operation writes a CameraState register (spec/10_state.md R20). -/
def writesCamera : Instr → Bool
  | .blink _ _ _ => false
  | .flip _ _ => false
  | .mirror _ _ => false
  | .backlight _ _ => false
  | .motionDetect _ _ => false
  | .whiteBalance _ _ => false
  | .iris _ _ => false
  | .relMove _ _ _ => false
  | .absMove _ => false
  | .inquireAll => false
  | .setPan _ _ => true
  | .setTilt _ _ => true
  | .setZoom _ _ => true
  | .setFocus _ _ => true
  | .getPan _ => false
  | .getTilt _ => false
  | .getZoom _ => false
  | .getFocus _ => false
  | .rxStart => false
  | .rxTerm => false
  | .rxData _ => false
  | .pollCheck _ => false
  | .reset => true

/-- The operation reads a CameraState register (spec/10_state.md R20). -/
def readsCamera : Instr → Bool
  | .blink _ _ _ => false
  | .flip _ _ => false
  | .mirror _ _ => false
  | .backlight _ _ => false
  | .motionDetect _ _ => false
  | .whiteBalance _ _ => false
  | .iris _ _ => false
  | .relMove _ _ _ => false
  | .absMove _ => true
  | .inquireAll => false
  | .setPan _ _ => false
  | .setTilt _ _ => false
  | .setZoom _ _ => false
  | .setFocus _ _ => false
  | .getPan _ => true
  | .getTilt _ => true
  | .getZoom _ => true
  | .getFocus _ => true
  | .rxStart => false
  | .rxTerm => false
  | .rxData _ => false
  | .pollCheck _ => false
  | .reset => false

/-- `t` is reached from `s` with no `RESET` and no poll burst on the way: by operations, errors of an
unassigned `op` and steps without an event, with new arrivals at any point, where a `POLL_CHECK` finds
the interval not yet elapsed and sends nothing (spec/60_exceptions.md R206, R208). -/
inductive UntriggeredRun : State → State → Prop
  | done (s : State) : UntriggeredRun s s
  | operation {s r t : State} (i : Instr) : exec i s = .next r → i ≠ .reset →
      (∀ now, i = .pollCheck now → r.out.tx = []) → UntriggeredRun r t → UntriggeredRun s t
  | unassignedOp {s t : State} : UntriggeredRun (s.raiseError .illegalOp) t → UntriggeredRun s t
  | noEvent {s t : State} : UntriggeredRun s.idle t → UntriggeredRun s t
  | arrivals {s t : State} (es : List Event) :
      UntriggeredRun { s with inbox := es } t → UntriggeredRun s t

/-- The length of the burst an operation emits when it emits one (spec/30_encoding.md R71, R74). -/
def burstLength (nCameras : Nat) : Instr → Nat
  | .blink _ _ _ => 6
  | .flip _ _ => 6
  | .mirror _ _ => 6
  | .backlight _ _ => 7
  | .motionDetect _ _ => 7
  | .whiteBalance _ _ => 15
  | .iris _ _ => 15
  | .relMove _ _ _ => 18
  | .absMove _ => 36
  | .inquireAll => 5 * nCameras
  | .setPan _ _ => 0
  | .setTilt _ _ => 0
  | .setZoom _ _ => 0
  | .setFocus _ _ => 0
  | .getPan _ => 0
  | .getTilt _ => 0
  | .getZoom _ => 0
  | .getFocus _ => 0
  | .rxStart => 0
  | .rxTerm => 0
  | .rxData _ => 0
  | .pollCheck _ => 5 * nCameras
  | .reset => 0

/-- The packet to camera index `p.1` with body `p.2` (spec/30_encoding.md R73). -/
def packet (p : Nat × List Byte) : List Byte := (0x81 + BitVec.ofNat 8 p.1) :: (p.2 ++ [0xFF])

/-- The inquiry packets of camera indices 0 to `n`-1 (spec/30_encoding.md R74, format W-Q). -/
def inquiryPackets : Nat → List Byte
  | 0 => []
  | n + 1 => inquiryPackets n ++ [0x81 + BitVec.ofNat 8 n, 0x09, 0x06, 0x12, 0xFF]

/-- `s` after a `CMD` that passes `bytes` to `TX`, answers 0 and changes nothing else. -/
def State.afterBurst (s : State) (bytes : List Byte) : State :=
  { s with
    out := { tx := bytes, frame := none, rsp := some 0, err := none }
    txSink := s.txSink ++ bytes }

/-- `s` after a getter that answers `v` and changes nothing. -/
def State.afterResponse (s : State) (v : Word) : State :=
  { s with out := { tx := [], frame := none, rsp := some v, err := none } }

/-- `s` after a `CMD` that raises `IllegalCam`: the sticky bit `err_cam`, `rsp_data` 0, nothing else
(spec/60_exceptions.md R192). -/
def State.afterIllegalCam (s : State) : State :=
  { s with
    status := s.status ||| 0b010
    out := { tx := [], frame := none, rsp := some 0, err := some .illegalCam } }

/-- `s` after an event that gives no output. -/
def State.afterQuiet (s : State) : State :=
  { s with out := { tx := [], frame := none, rsp := none, err := none } }

end Sys2Proof.Machine
end

