-- ==== Sys2Proof/Certificates/Slice0/Obligations.lean ====
section
/-! DEFINITION. The statements for the provers, from the numbered rules of spec/. A state is any state with
any configuration, reached or not, unless a hypothesis says more. -/

open Sys2Proof Sys2Proof.Machine

/-! ## Encoding -/

/-- Every operation an encoding exists for is read back from its encoding, with every operand at every
value (spec/30_encoding.md R70, R71, R72, R84). -/
def Obligations.DecodeOfEncodeIsIdentity : Prop :=
  ∀ i : Instr, i.wellFormed = true → decode (encode i) = .ok i

/-- What the decoder reads is well formed and keeps the operation code of a request; an event of the
other three kinds is encoded back to itself (spec/30_encoding.md R71, R72, R84). -/
def Obligations.DecodedOperationReencodes : Prop :=
  ∀ (e : Event) (i : Instr), decode e = .ok i →
    i.wellFormed = true ∧
    (∀ w, e = .cmd w → ∃ w', encode i = .cmd w' ∧ reqOp w' = reqOp w) ∧
    ((∀ w, e ≠ .cmd w) → encode i = e)

/-- An operand field an operation does not use has no effect on what is decoded: `b` outside `BLINK`
and `REL_MOVE`, `a` of `ABS_MOVE`, `INQUIRE_ALL` and the getters, `cam` of `INQUIRE_ALL`
(spec/30_encoding.md R70, R71). -/
def Obligations.UnusedOperandFieldsHaveNoEffect : Prop :=
  ∀ (op cam cam' : Byte) (a a' b b' : Word),
    (op ≠ 0x00 → op ≠ 0x07 →
      decode (.cmd (request op cam a b)) = decode (.cmd (request op cam a b'))) ∧
    (op ∈ [0x08, 0x09, 0x14, 0x15, 0x16, 0x17] →
      decode (.cmd (request op cam a b)) = decode (.cmd (request op cam a' b'))) ∧
    decode (.cmd (request 0x09 cam a b)) = decode (.cmd (request 0x09 cam' a' b'))

/-- The words of spec/30_encoding.md R70 lie at their bits: `op` at 79:72, `cam` at 71:64, `a` at 63:32,
`b` at 31:0, and the four fields are the whole word. -/
def Obligations.RequestFieldsAreTheWord : Prop :=
  ∀ w : BitVec 80,
    (reqOp w).toNat = w.toNat / 2 ^ 72 ∧ (reqCam w).toNat = w.toNat / 2 ^ 64 % 2 ^ 8 ∧
    (reqA w).toNat = w.toNat / 2 ^ 32 % 2 ^ 32 ∧ (reqB w).toNat = w.toNat % 2 ^ 32 ∧
    request (reqOp w) (reqCam w) (reqA w) (reqB w) = w

/-- The decoder refuses exactly the requests whose operation code is unassigned: 0x0A to 0x0F and 0x18
to 0xFF (spec/30_encoding.md R71, R88); it refuses no other event. -/
def Obligations.DecoderRefusesExactlyUnassignedOps : Prop :=
  ∀ e : Event, (∃ r, decode e = .error r) ↔
    ∃ w, e = .cmd w ∧ ((0x0A ≤ (reqOp w).toNat ∧ (reqOp w).toNat ≤ 0x0F) ∨ 0x18 ≤ (reqOp w).toNat)

/-- A received byte is in exactly one class, by its value alone (spec/30_encoding.md R84). -/
def Obligations.ReceivedByteHasItsClass : Prop :=
  ∀ b : Byte, decode (.rxByte b) =
    .ok (if b = 0x90 then Instr.rxStart else if b = 0xFF then .rxTerm else .rxData b)

/-- Six words written out from the encodings of spec/30_encoding.md R70, R71, R84 (the words are those of
spec/95_test_vectors.md V-S1, V-M7, V-CS15, V-X8) decode to their operations. -/
def Obligations.WrittenOutWordsDecode : Prop :=
  decode (.cmd 0x00000000000200000001) = .ok (.blink 0 2 1) ∧
  decode (.cmd 0x0703000000FAFFFFFFFD) = .ok (.relMove 3 250 (-3)) ∧
  decode (.cmd 0x1300FFFFFFFB00000000) = .ok (.setFocus 0 (-5)) ∧
  decode (.cmd 0x16070000000000000000) = .ok (.getZoom 7) ∧
  decode (.rxByte 0x90) = .ok .rxStart ∧
  decode (.pollCheck 0x000003E8) = .ok (.pollCheck 1000)

/-! ## The step -/

/-- A step takes the first event offered and, where it decodes, is exactly that operation's meaning in
the state without the event (spec/00_scope.md R7, spec/20_memory.md R60); that arrivals wait in a list
is the model's choice (notes/assumptions/3.md). -/
def Obligations.StepRunsDecodedOperation : Prop :=
  ∀ (s : State) (e : Event) (rest : List Event) (i : Instr),
    s.shaped → s.inbox = e :: rest → decode e = .ok i → step s = exec i { s with inbox := rest }

/-- A `CMD` with an unassigned `op` raises `IllegalOp`, whatever its other fields: no byte, no register
touched, `rsp_data` 0 with `rsp_err` 1, `err_op` set, and the block goes on (spec/60_exceptions.md
R191). -/
def Obligations.UnassignedOpRaisesIllegalOp : Prop :=
  ∀ (s : State) (w : BitVec 80) (rest : List Event),
    s.shaped → s.inbox = .cmd w :: rest →
    ((0x0A ≤ (reqOp w).toNat ∧ (reqOp w).toNat ≤ 0x0F) ∨ 0x18 ≤ (reqOp w).toNat) →
    step s = .next { s with
      inbox := rest
      status := s.status ||| 0b001
      out := { tx := [], frame := none, rsp := some 0, err := some .illegalOp } } ∧
    Outputs.rspErr { tx := [], frame := none, rsp := some 0, err := some .illegalOp } = 1

/-- The model's choice (notes/assumptions/5.md, from spec/60_exceptions.md R213): with no event offered a
step leaves every register and only ends the output pulses. -/
def Obligations.StepWithoutEventIsQuiet : Prop :=
  ∀ s : State, s.shaped → s.inbox = [] → step s = .next s.afterQuiet

/-- The model's choice (notes/assumptions/10.md): a step answers a next state exactly in a shaped state,
whatever the event, and faults in every other; it never refuses. -/
def Obligations.StepAnswersInEveryShapedState : Prop :=
  ∀ s : State, ((∃ t, step s = .next t) ↔ s.shaped) ∧
    (¬ s.shaped → step s = .fault .malformedState)

/-- Every step keeps the block's invariant: registers in their domains, the assembler's state and index
consistent, the partial frame a start marker and payload, files of the right length
(spec/10_state.md R20 to R25, R28). -/
def Obligations.StepKeepsInvariant : Prop :=
  ∀ s t : State, s.Inv → step s = .next t → t.Inv

/-- The invariant holds right after reset, for every legal configuration, and so for the model's own
choice of one, `State.reset` (notes/assumptions/1.md; spec/10_state.md R37). -/
def Obligations.ResetMeetsInvariant : Prop :=
  (∀ c : Config, c.legal → (State.resetWith c).Inv) ∧ State.reset.Inv

/-- After `k` steps the first `k` events offered are gone, in order, and the transmit stream has grown by
exactly the byte lists of those events, in that order (spec/20_memory.md R60 items 1 and 2, R56). That
the other arrivals stay, through `RESET` too, is the model's choice (notes/assumptions/3.md). -/
def Obligations.TransmitStreamIsConcatenationOfBursts : Prop :=
  ∀ (k : Nat) (s t : State), Sys2Proof.core.run k s = .next t →
    t.inbox = s.inbox.drop k ∧
    t.txSink = s.txSink ++ (s.trace k).flatMap (fun o => o.tx)

/-- No output depends on a receive buffer byte at index `rx_idx` or above: two states that differ only
there answer alike and differ only there again (spec/10_state.md R29). -/
def Obligations.OutputsNeverDependOnStaleBytes : Prop :=
  ∀ s t s' : State, s.agreeUpToStale t → step s = .next s' →
    ∃ t', step t = .next t' ∧ s'.agreeUpToStale t' ∧ t'.out = s'.out

/-! ## What an operation may touch -/

/-- No operation writes a parameter, and every operation ends with its bytes appended to the transmit
stream (spec/10_state.md R32, spec/20_memory.md R56, R60 item 2). That no operation, `RESET` among them,
changes the events that wait is the model's choice (notes/assumptions/3.md): they stand in a field of
the model's own and each runs later, in arrival order (R60 item 1). -/
def Obligations.OperationsLeaveParametersAndArrivals : Prop :=
  ∀ (i : Instr) (s t : State), exec i s = .next t →
    t.cfg = s.cfg ∧ t.inbox = s.inbox ∧ t.txSink = s.txSink ++ t.out.tx

/-- Only the setters and `RESET` write a CameraState register (spec/10_state.md R20). -/
def Obligations.OnlySettersAndResetWriteCameraState : Prop :=
  ∀ (i : Instr) (s t : State), writesCamera i = false → exec i s = .next t → t.cs = s.cs

/-- Only the getters and `ABS_MOVE` read a CameraState register (spec/10_state.md R20): run with two
register files, any other operation answers the same outputs and the same state outside the file, and
what it writes into the file is the same in both runs. A setter writes one value into its own field of
its own camera in both (spec/20_memory.md R63: it reads nothing), and neither file where it raises
`IllegalCam`; `RESET` makes the two files one; every other operation leaves each as it was. -/
def Obligations.OnlyGettersAndAbsMoveReadCameraState : Prop :=
  ∀ (i : Instr) (s t : State) (cs' : List Camera), readsCamera i = false → exec i s = .next t →
    ∃ cs'', exec i { s with cs := cs' } = .next { t with cs := cs'' } ∧
      (writesCamera i = false → t.cs = s.cs ∧ cs'' = cs') ∧
      (i = .reset → cs'' = t.cs) ∧
      (∀ cam, cameraOf i = some cam → s.cfg.nCameras ≤ cam.toNat → t.cs = s.cs ∧ cs'' = cs') ∧
      (∀ cam a, i = .setPan cam a → cam.toNat < s.cfg.nCameras →
        ∃ p, t.cs = s.cs.modify cam.toNat (fun k => { k with pan := p }) ∧
          cs'' = cs'.modify cam.toNat (fun k => { k with pan := p })) ∧
      (∀ cam a, i = .setTilt cam a → cam.toNat < s.cfg.nCameras →
        ∃ p, t.cs = s.cs.modify cam.toNat (fun k => { k with tilt := p }) ∧
          cs'' = cs'.modify cam.toNat (fun k => { k with tilt := p })) ∧
      (∀ cam a, i = .setZoom cam a → cam.toNat < s.cfg.nCameras →
        ∃ p, t.cs = s.cs.modify cam.toNat (fun k => { k with zoom := p }) ∧
          cs'' = cs'.modify cam.toNat (fun k => { k with zoom := p })) ∧
      (∀ cam a, i = .setFocus cam a → cam.toNat < s.cfg.nCameras →
        ∃ p, t.cs = s.cs.modify cam.toNat (fun k => { k with focus := p }) ∧
          cs'' = cs'.modify cam.toNat (fun k => { k with focus := p }))

/-- No operation but a received byte hands over a frame, and none but a received byte or `RESET` changes
`rx_state` or `rx_idx` (spec/10_state.md R27, R28, spec/46_frame_assembler.md R179) or a byte of the
buffer (spec/10_state.md R29). That `RESET` too leaves the buffer bytes as they are is the model's choice
(notes/assumptions/6.md): R29 leaves them unspecified there. An unassigned `op` is
UnassignedOpRaisesIllegalOp's, a step without an event StepWithoutEventIsQuiet's. -/
def Obligations.OnlyReceivedBytesAndResetTouchAssembler : Prop :=
  ∀ (i : Instr) (s t : State), isRxByte i = false → exec i s = .next t →
    t.out.frame = none ∧ t.rxbuf = s.rxbuf ∧
    (i ≠ .reset → t.rxState = s.rxState ∧ t.rxIdx = s.rxIdx)

/-- A received byte never transmits, gives no response, and touches no CameraState register and no poll
time (spec/46_frame_assembler.md R170). -/
def Obligations.ReceivedBytesTouchOnlyAssemblerAndOverflowBit : Prop :=
  ∀ (i : Instr) (s t : State), isRxByte i = true → exec i s = .next t →
    t.out.tx = [] ∧ t.txSink = s.txSink ∧ t.out.rsp = none ∧ t.cs = s.cs ∧
    t.lastPoll = s.lastPoll ∧ (t.status = s.status ∨ t.status = s.status ||| 0b100)

/-- Only `POLL_CHECK` and `RESET` write `last_poll` (spec/10_state.md R31). -/
def Obligations.OnlyPollCheckAndResetWriteLastPoll : Prop :=
  ∀ (i : Instr) (s t : State), exec i s = .next t → i ≠ .reset →
    (∀ now, i ≠ .pollCheck now) → t.lastPoll = s.lastPoll

/-- A status bit is set exactly by its error and stays set through every event but `RESET`
(spec/10_state.md R30). -/
def Obligations.StatusBitsAreSticky : Prop :=
  ∀ (s t : State) (e : Event) (rest : List Event),
    s.inbox = e :: rest → e ≠ .reset → step s = .next t →
    (t.status.getLsbD 0 = (s.status.getLsbD 0 || decide (t.out.err = some .illegalOp))) ∧
    (t.status.getLsbD 1 = (s.status.getLsbD 1 || decide (t.out.err = some .illegalCam))) ∧
    (t.status.getLsbD 2 = (s.status.getLsbD 2 || decide (t.out.err = some .rxOverflow)))

/-- An error sets its own sticky bit and leaves the other two, transmits nothing, hands over no frame,
changes no CameraState register and no poll time; the two errors of a `CMD` leave the assembler as it is
and `RxOverflow` takes it from a full buffer back to `Idle` (spec/60_exceptions.md R190). -/
def Obligations.ErrorsChangeNothingElse : Prop :=
  ∀ (s t : State) (x : BlockError), step s = .next t → t.out.err = some x →
    t.status = s.status ||| x.statusBit ∧
    t.out.tx = [] ∧ t.txSink = s.txSink ∧ t.out.frame = none ∧ t.cs = s.cs ∧
    t.lastPoll = s.lastPoll ∧ t.rxbuf = s.rxbuf ∧
    (x ≠ .rxOverflow → t.rxState = s.rxState ∧ t.rxIdx = s.rxIdx) ∧
    (x = .rxOverflow → t.rxState = .idle ∧ t.rxIdx = 0 ∧ s.rxState = .receiving ∧
      s.rxIdx = s.cfg.rxCap)

/-- Every operation with a camera operand of `N_CAMERAS` or more raises `IllegalCam`: no byte, no
register touched, `rsp_data` 0 with `rsp_err` 2, `err_cam` set (spec/60_exceptions.md R192). -/
def Obligations.OutOfRangeCameraRaisesIllegalCam : Prop :=
  ∀ (i : Instr) (cam : Byte) (s : State),
    cameraOf i = some cam → s.cfg.nCameras ≤ cam.toNat →
    exec i s = .next s.afterIllegalCam ∧ s.afterIllegalCam.out.rspErr = 2

/-! ## What is transmitted -/

/-- Every burst is whole packets, each addressed to a camera that exists and to the operation's own
camera where it has one, with no terminator before its end; for `BLINK` when neither operand byte is
the terminator (spec/30_encoding.md R73, R85, R86). -/
def Obligations.BurstsAreWholeAddressedPackets : Prop :=
  ∀ (i : Instr) (s t : State), s.cfg.legal → exec i s = .next t →
    (∀ cam led mode, i = .blink cam led mode →
      led.toNat % 256 ≠ 0xFF ∧ mode.toNat % 256 ≠ 0xFF) →
    ∃ ps : List (Nat × List Byte), t.out.tx = ps.flatMap packet ∧
      ∀ p ∈ ps, p.1 < s.cfg.nCameras ∧ 0xFF ∉ ((0x81 + BitVec.ofNat 8 p.1) :: p.2) ∧
        (∀ cam, cameraOf i = some cam → p.1 = cam.toNat)

/-- The length of a burst is fixed by the operation and does not depend on operand values
(spec/30_encoding.md R74, R85). -/
def Obligations.BurstLengthIsFixedPerOperation : Prop :=
  ∀ (i : Instr) (s t : State), exec i s = .next t →
    ((∀ now, i ≠ .pollCheck now) → t.out.err = none →
      t.out.tx.length = burstLength s.cfg.nCameras i) ∧
    (t.out.tx.length = 0 ∨ t.out.tx.length = burstLength s.cfg.nCameras i)

/-- `toNibbles(v)` is the four 4-bit groups of `v mod 65536`, most significant first, each in the low
half of a byte, for every integer `v` (spec/40_nibble_codec.md R100). -/
def Obligations.NibblesAreBigEndianGroupsOfLowWord : Prop :=
  ∀ v : Int, ∃ u : Nat, (u : Int) = v % 65536 ∧
    (toNibbles v).map (fun n => n.toNat) = [u / 4096 % 16, u / 256 % 16, u / 16 % 16, u % 16]

/-- Reassembling the nibbles of `v` gives `v mod 65536`, so `v` itself in 0 to 65535
(spec/40_nibble_codec.md R101). -/
def Obligations.NibblesReassemble : Prop :=
  ∀ v : Int, ((toNibbles v).foldl (fun acc n => acc * 16 + n.toNat) 0 : Int) = v % 65536 ∧
    (0 ≤ v → v ≤ 65535 →
      ((toNibbles v).foldl (fun acc n => acc * 16 + n.toNat) 0 : Int) = v)

/-- The speed byte is `abs(d)*31/100` rounded to nearest, halves up, and 31 from `abs(d)` = 99 on, for
every integer `d` (spec/40_nibble_codec.md R105). -/
def Obligations.SpeedIsRoundedAndSaturates : Prop :=
  ∀ d : Int, (speed d).toNat ≤ 31 ∧ speed (-d) = speed d ∧
    (99 ≤ d.natAbs → (speed d).toNat = 31) ∧
    (d.natAbs ≤ 100 →
      100 * (speed d).toNat ≤ d.natAbs * 31 + 50 ∧ d.natAbs * 31 + 50 < 100 * ((speed d).toNat + 1))

/-- The direction byte is 0x02, 0x01 or 0x03 by the sign of the operand alone
(spec/40_nibble_codec.md R106). -/
def Obligations.DirectionFollowsSign : Prop :=
  ∀ d : Int, (0 < d → dir d = 0x02) ∧ (d < 0 → dir d = 0x01) ∧ (d = 0 → dir d = 0x03)

/-- `BLINK` sends its operands' low bytes unchanged in one packet and changes nothing else; an
out-of-range camera is `IllegalCam` (spec/42_simple_commands.md R130). -/
def Obligations.BlinkSendsOnePacket : Prop :=
  ∀ (cam : Byte) (a b : Word) (s : State),
    (cam.toNat < s.cfg.nCameras → exec (.blink cam a b) s = .next (s.afterBurst
      [0x81 + cam, 0x01, 0x33, BitVec.ofNat 8 a.toNat, BitVec.ofNat 8 b.toNat, 0xFF])) ∧
    (s.cfg.nCameras ≤ cam.toNat → exec (.blink cam a b) s = .next s.afterIllegalCam)

/-- `FLIP` sends `01 04 66` and 02 for a non-zero operand, 03 for zero, and changes nothing else
(spec/42_simple_commands.md R131). -/
def Obligations.FlipSendsOnePacket : Prop :=
  ∀ (cam : Byte) (a : Word) (s : State),
    (cam.toNat < s.cfg.nCameras → exec (.flip cam a) s = .next (s.afterBurst
      [0x81 + cam, 0x01, 0x04, 0x66, if a = 0 then 0x03 else 0x02, 0xFF])) ∧
    (s.cfg.nCameras ≤ cam.toNat → exec (.flip cam a) s = .next s.afterIllegalCam)

/-- `MIRROR` sends `01 04 61` and 02 for a non-zero operand, 03 for zero, and changes nothing else
(spec/42_simple_commands.md R132). -/
def Obligations.MirrorSendsOnePacket : Prop :=
  ∀ (cam : Byte) (a : Word) (s : State),
    (cam.toNat < s.cfg.nCameras → exec (.mirror cam a) s = .next (s.afterBurst
      [0x81 + cam, 0x01, 0x04, 0x61, if a = 0 then 0x03 else 0x02, 0xFF])) ∧
    (s.cfg.nCameras ≤ cam.toNat → exec (.mirror cam a) s = .next s.afterIllegalCam)

/-- `BACKLIGHT` sends `01 04 33 02` and 02 for a non-zero operand, 03 for zero, and changes nothing else
(spec/42_simple_commands.md R133). -/
def Obligations.BacklightSendsOnePacket : Prop :=
  ∀ (cam : Byte) (a : Word) (s : State),
    (cam.toNat < s.cfg.nCameras → exec (.backlight cam a) s = .next (s.afterBurst
      [0x81 + cam, 0x01, 0x04, 0x33, 0x02, if a = 0 then 0x03 else 0x02, 0xFF])) ∧
    (s.cfg.nCameras ≤ cam.toNat → exec (.backlight cam a) s = .next s.afterIllegalCam)

/-- `MOTION_DETECT` sends `01 50 30 01` and 01 for a non-zero operand, 00 for zero, and changes nothing
else (spec/42_simple_commands.md R134). -/
def Obligations.MotionDetectSendsOnePacket : Prop :=
  ∀ (cam : Byte) (a : Word) (s : State),
    (cam.toNat < s.cfg.nCameras → exec (.motionDetect cam a) s = .next (s.afterBurst
      [0x81 + cam, 0x01, 0x50, 0x30, 0x01, if a = 0 then 0x00 else 0x01, 0xFF])) ∧
    (s.cfg.nCameras ≤ cam.toNat → exec (.motionDetect cam a) s = .next s.afterIllegalCam)

/-- `WHITE_BALANCE` sends the mode packet (00 for every negative operand, else 06) and the value packet
with the operand's low 16 bits as nibbles, and changes nothing else (spec/43_parameter_commands.md
R140). -/
def Obligations.WhiteBalanceSendsModeAndValue : Prop :=
  ∀ (cam : Byte) (a : Word) (s : State),
    (cam.toNat < s.cfg.nCameras → exec (.whiteBalance cam a) s = .next (s.afterBurst
      ([0x81 + cam, 0x01, 0x04, 0x35, if a.toInt < 0 then 0x00 else 0x06, 0xFF,
        0x81 + cam, 0x01, 0x04, 0x75] ++ toNibbles a.toInt ++ [0xFF]))) ∧
    (s.cfg.nCameras ≤ cam.toNat → exec (.whiteBalance cam a) s = .next s.afterIllegalCam)

/-- `IRIS` sends the mode packet (00 for every negative operand, else 03) and the value packet with the
operand's low 16 bits as nibbles, and changes nothing else (spec/43_parameter_commands.md R141). -/
def Obligations.IrisSendsModeAndValue : Prop :=
  ∀ (cam : Byte) (a : Word) (s : State),
    (cam.toNat < s.cfg.nCameras → exec (.iris cam a) s = .next (s.afterBurst
      ([0x81 + cam, 0x01, 0x04, 0x39, if a.toInt < 0 then 0x00 else 0x03, 0xFF,
        0x81 + cam, 0x01, 0x04, 0x4B] ++ toNibbles a.toInt ++ [0xFF]))) ∧
    (s.cfg.nCameras ≤ cam.toNat → exec (.iris cam a) s = .next s.afterIllegalCam)

/-- `REL_MOVE` sends the fixed packet and the packet of speeds and directions, pan from `dx`, tilt from
`dy`, and changes nothing else: the cached position stays (spec/44_motion_commands.md R150). -/
def Obligations.RelMoveSendsSpeedsAndDirections : Prop :=
  ∀ (cam : Byte) (a b : Word) (s : State),
    (cam.toNat < s.cfg.nCameras → exec (.relMove cam a b) s = .next (s.afterBurst
      [0x81 + cam, 0x01, 0x06, 0x01, 0x00, 0x00, 0x03, 0x03, 0xFF,
       0x81 + cam, 0x01, 0x06, 0x01, speed a.toInt, speed b.toInt, dir a.toInt, dir b.toInt,
       0xFF])) ∧
    (s.cfg.nCameras ≤ cam.toNat → exec (.relMove cam a b) s = .next s.afterIllegalCam)

/-- `ABS_MOVE` sends the focus-mode packet, the stop packet and the nibbles of the addressed camera's
pan, tilt, zoom and focus, all read in the same state, and changes nothing else
(spec/44_motion_commands.md R155). -/
def Obligations.AbsMoveSendsTheCachedPosition : Prop :=
  ∀ (cam : Byte) (s : State) (k : Camera),
    (cam.toNat < s.cfg.nCameras → s.cs[cam.toNat]? = some k →
      exec (.absMove cam) s = .next (s.afterBurst
        ([0x81 + cam, 0x01, 0x04, 0x38, if k.focus.toInt = -1 then 0x02 else 0x03, 0xFF,
          0x81 + cam, 0x01, 0x06, 0x01, 0x03, 0x03, 0x03, 0x03, 0xFF,
          0x81 + cam, 0x01, 0x06, 0x20] ++ toNibbles k.pan.toNat ++ toNibbles k.tilt.toNat
          ++ toNibbles k.zoom.toNat ++ toNibbles k.focus.toInt ++ [0xFF]))) ∧
    (s.cfg.nCameras ≤ cam.toNat → exec (.absMove cam) s = .next s.afterIllegalCam)

/-- `INQUIRE_ALL` sends one packet `09 06 12` to every camera, ascending, and changes nothing else,
whatever the state (spec/45_inquiry.md R165). -/
def Obligations.InquireAllAsksEveryCamera : Prop :=
  ∀ s : State, exec .inquireAll s = .next (s.afterBurst (inquiryPackets s.cfg.nCameras))

/-! ## CameraState -/

/-- `SET_PAN` stores `clamp(a, 0, PAN_MAX)` in the addressed camera's pan register; every other register
of every camera and everything else stays, and nothing is transmitted (spec/41_camera_state.md R110). -/
def Obligations.SetPanStoresClampedValue : Prop :=
  ∀ (cam : Byte) (a : Word) (s : State) (k : Camera) (p : BitVec 16),
    (cam.toNat < s.cfg.nCameras → s.cs[cam.toNat]? = some k →
      (p.toNat : Int) = max 0 (min a.toInt s.cfg.panMax.toNat) →
      exec (.setPan cam a) s = .next
        { s.afterBurst [] with cs := s.cs.set cam.toNat { k with pan := p } }) ∧
    (s.cfg.nCameras ≤ cam.toNat → exec (.setPan cam a) s = .next s.afterIllegalCam)

/-- `SET_TILT` stores `clamp(a, 0, TILT_MAX)` in the addressed camera's tilt register and leaves all
else (spec/41_camera_state.md R111). -/
def Obligations.SetTiltStoresClampedValue : Prop :=
  ∀ (cam : Byte) (a : Word) (s : State) (k : Camera) (p : BitVec 16),
    (cam.toNat < s.cfg.nCameras → s.cs[cam.toNat]? = some k →
      (p.toNat : Int) = max 0 (min a.toInt s.cfg.tiltMax.toNat) →
      exec (.setTilt cam a) s = .next
        { s.afterBurst [] with cs := s.cs.set cam.toNat { k with tilt := p } }) ∧
    (s.cfg.nCameras ≤ cam.toNat → exec (.setTilt cam a) s = .next s.afterIllegalCam)

/-- `SET_ZOOM` stores `clamp(a, 0, ZOOM_MAX)` in the addressed camera's zoom register and leaves all
else (spec/41_camera_state.md R112). -/
def Obligations.SetZoomStoresClampedValue : Prop :=
  ∀ (cam : Byte) (a : Word) (s : State) (k : Camera) (p : BitVec 16),
    (cam.toNat < s.cfg.nCameras → s.cs[cam.toNat]? = some k →
      (p.toNat : Int) = max 0 (min a.toInt s.cfg.zoomMax.toNat) →
      exec (.setZoom cam a) s = .next
        { s.afterBurst [] with cs := s.cs.set cam.toNat { k with zoom := p } }) ∧
    (s.cfg.nCameras ≤ cam.toNat → exec (.setZoom cam a) s = .next s.afterIllegalCam)

/-- `SET_FOCUS` stores `clamp(a, -1, FOCUS_MAX)`, a signed value, in the addressed camera's focus
register and leaves all else (spec/41_camera_state.md R113). -/
def Obligations.SetFocusStoresClampedValue : Prop :=
  ∀ (cam : Byte) (a : Word) (s : State) (k : Camera) (p : BitVec 17),
    (cam.toNat < s.cfg.nCameras → s.cs[cam.toNat]? = some k →
      p.toInt = max (-1) (min a.toInt s.cfg.focusMax.toNat) →
      exec (.setFocus cam a) s = .next
        { s.afterBurst [] with cs := s.cs.set cam.toNat { k with focus := p } }) ∧
    (s.cfg.nCameras ≤ cam.toNat → exec (.setFocus cam a) s = .next s.afterIllegalCam)

/-- A getter of a camera that exists puts its register on the response port as a signed 32-bit value and
changes nothing; auto focus reads as 0xFFFFFFFF (spec/41_camera_state.md R114 to R117). That pan, tilt
and zoom are widened with zeros is a deduced reading (notes/assumptions/13.md): R118 says sign-extended,
but the registers are unsigned (spec/10_state.md R21 to R23) and R114 gives results 0 to `PAN_MAX`. A
camera out of range is OutOfRangeCameraRaisesIllegalCam's. -/
def Obligations.GettersAnswerTheRegister : Prop :=
  ∀ (cam : Byte) (s : State) (k : Camera) (v : Word),
    cam.toNat < s.cfg.nCameras → s.cs[cam.toNat]? = some k →
    (v.toInt = k.pan.toNat → exec (.getPan cam) s = .next (s.afterResponse v)) ∧
    (v.toInt = k.tilt.toNat → exec (.getTilt cam) s = .next (s.afterResponse v)) ∧
    (v.toInt = k.zoom.toNat → exec (.getZoom cam) s = .next (s.afterResponse v)) ∧
    (v.toInt = k.focus.toInt → exec (.getFocus cam) s = .next (s.afterResponse v))

/-- A setter then the getter of the same field and camera answers the clamped value; the setter changes no
other field and no other camera, and is silent about clamping: no error, no flag, no response but 0
(spec/41_camera_state.md R119). -/
def Obligations.SettersThenGettersAnswerClamped : Prop :=
  ∀ (cam : Byte) (a : Word) (s : State) (k : Camera),
    cam.toNat < s.cfg.nCameras → s.cs[cam.toNat]? = some k →
    (∃ t u v r, exec (.setPan cam a) s = .next t ∧ exec (.getPan cam) t = .next u ∧
      u.out.rsp = some v ∧ v.toInt = max 0 (min a.toInt s.cfg.panMax.toNat) ∧
      t.cs[cam.toNat]? = some { k with pan := r } ∧
      (∀ c : Nat, c ≠ cam.toNat → t.cs[c]? = s.cs[c]?) ∧ t.out = { Outputs.quiet with rsp := some 0 } ∧
      t.status = s.status) ∧
    (∃ t u v r, exec (.setTilt cam a) s = .next t ∧ exec (.getTilt cam) t = .next u ∧
      u.out.rsp = some v ∧ v.toInt = max 0 (min a.toInt s.cfg.tiltMax.toNat) ∧
      t.cs[cam.toNat]? = some { k with tilt := r } ∧
      (∀ c : Nat, c ≠ cam.toNat → t.cs[c]? = s.cs[c]?) ∧ t.out = { Outputs.quiet with rsp := some 0 } ∧
      t.status = s.status) ∧
    (∃ t u v r, exec (.setZoom cam a) s = .next t ∧ exec (.getZoom cam) t = .next u ∧
      u.out.rsp = some v ∧ v.toInt = max 0 (min a.toInt s.cfg.zoomMax.toNat) ∧
      t.cs[cam.toNat]? = some { k with zoom := r } ∧
      (∀ c : Nat, c ≠ cam.toNat → t.cs[c]? = s.cs[c]?) ∧ t.out = { Outputs.quiet with rsp := some 0 } ∧
      t.status = s.status) ∧
    (∃ t u v r, exec (.setFocus cam a) s = .next t ∧ exec (.getFocus cam) t = .next u ∧
      u.out.rsp = some v ∧ v.toInt = max (-1) (min a.toInt s.cfg.focusMax.toNat) ∧
      t.cs[cam.toNat]? = some { k with focus := r } ∧
      (∀ c : Nat, c ≠ cam.toNat → t.cs[c]? = s.cs[c]?) ∧ t.out = { Outputs.quiet with rsp := some 0 } ∧
      t.status = s.status)

/-- `SET_FOCUS` selects the focus-mode byte of the very next `ABS_MOVE` to that camera: 0x02 for every
negative operand, 0x03 for every other (spec/41_camera_state.md R113, spec/20_memory.md R64). -/
def Obligations.SetFocusSelectsModeOfNextAbsMove : Prop :=
  ∀ (cam : Byte) (a : Word) (s t : State), s.shaped → cam.toNat < s.cfg.nCameras →
    exec (.setFocus cam a) s = .next t →
    ∃ u, exec (.absMove cam) t = .next u ∧
      u.out.tx[4]? = some (if a.toInt < 0 then 0x02 else 0x03)

/-- Repeating a setter with the same operand leaves the same register file (spec/20_memory.md R57). -/
def Obligations.SettersAreIdempotent : Prop :=
  ∀ (i : Instr) (s t u : State), writesCamera i = true → s.shaped →
    exec i s = .next t → exec i t = .next u → u.cs = t.cs

/-! ## FrameAssembler -/

/-- A start marker starts a frame in `Idle` and restarts it in `Receiving`, full buffer or not, with no
frame, no flag, no error (spec/46_frame_assembler.md R172, R174). -/
def Obligations.StartMarkerStartsFrame : Prop :=
  ∀ s : State, exec .rxStart s = .next { s.afterQuiet with
    rxbuf := s.rxbuf.set 0 0x90, rxIdx := 1, rxState := .receiving }

/-- Any other byte in `Idle` is discarded with no state change, no frame, no flag, no error
(spec/46_frame_assembler.md R173). -/
def Obligations.IdleDiscardsOtherBytes : Prop :=
  ∀ (s : State) (b : Byte), s.rxState = .idle →
    exec .rxTerm s = .next s.afterQuiet ∧
    (b ≠ 0x90 → exec (.rxData b) s = .next s.afterQuiet)

/-- A data byte in `Receiving` with room is stored at index `rx_idx`, which moves on by one
(spec/46_frame_assembler.md R175). -/
def Obligations.DataByteIsAppended : Prop :=
  ∀ (s : State) (b : Byte), s.rxState = .receiving → s.rxIdx < s.cfg.rxCap → isPayload b →
    exec (.rxData b) s = .next { s.afterQuiet with
      rxbuf := s.rxbuf.set s.rxIdx b, rxIdx := s.rxIdx + 1 }

/-- Any byte but the start marker that finds the buffer full drops the partial frame: back to `Idle`,
`rx_ovf` set, `RxOverflow`, the byte not stored even when it is the terminator, no frame
(spec/46_frame_assembler.md R176, spec/60_exceptions.md R193). -/
def Obligations.FullBufferOverflows : Prop :=
  ∀ (s : State) (b : Byte), s.rxState = .receiving → s.rxIdx = s.cfg.rxCap → b ≠ 0x90 →
    let t := { s with
      rxState := .idle, rxIdx := 0, status := s.status ||| 0b100
      out := { tx := [], frame := none, rsp := none, err := some .rxOverflow } }
    exec .rxTerm s = .next t ∧ exec (.rxData b) s = .next t

/-- The terminator in `Receiving` with room completes the frame: the buffered bytes and the terminator
are handed over with their length, the forward flag low exactly for `90 50 FF`, and the assembler is
back in `Idle` (spec/46_frame_assembler.md R177, R178). -/
def Obligations.TerminatorHandsOverTheFrame : Prop :=
  ∀ s : State, s.shaped → s.rxState = .receiving → s.rxIdx < s.cfg.rxCap →
    exec .rxTerm s = .next { s with
      rxState := .idle, rxIdx := 0, rxbuf := s.rxbuf.set s.rxIdx 0xFF
      out :=
        { tx := []
          frame := some
            { bytes := s.rxbuf.take s.rxIdx ++ [0xFF]
              len := s.rxIdx + 1
              fwd := decide (s.rxbuf.take s.rxIdx ++ [0xFF] ≠ [0x90, 0x50, 0xFF]) }
          rsp := none
          err := none } }

/-- Every frame the block hands over starts with 0x90, ends with 0xFF, holds neither value elsewhere, is
2 to `RX_CAP` bytes long, comes with its length, is forwarded unless it is the echo frame, and leaves
the assembler in `Idle` (spec/46_frame_assembler.md R177, R178). -/
def Obligations.DeliveredFramesAreDelimited : Prop :=
  ∀ (s t : State) (f : Frame), s.Inv → step s = .next t → t.out.frame = some f →
    (∃ payload : List Byte, f.bytes = 0x90 :: payload ++ [0xFF] ∧ ∀ b ∈ payload, isPayload b) ∧
    f.len = f.bytes.length ∧ 2 ≤ f.len ∧ f.len ≤ s.cfg.rxCap ∧
    (f.fwd = false ↔ f.bytes = [0x90, 0x50, 0xFF]) ∧ t.rxState = .idle ∧ t.rxIdx = 0

/-- Feeding a start marker, any payload that fits and a terminator to a block in `Idle` gives exactly
one frame, on the last byte, with those bytes and their length, and leaves the assembler in `Idle`
(spec/46_frame_assembler.md R181). -/
def Obligations.AssemblerRoundTrip : Prop :=
  ∀ (s : State) (payload : List Byte) (rest : List Event),
    s.shaped → s.rxState = .idle → (∀ b ∈ payload, isPayload b) →
    payload.length + 2 ≤ s.cfg.rxCap →
    s.inbox = (0x90 :: payload ++ [0xFF]).map Event.rxByte ++ rest →
    s.trace (payload.length + 2) = List.replicate (payload.length + 1) Outputs.quiet ++
      [{ tx := []
         frame := some
           { bytes := 0x90 :: payload ++ [0xFF]
             len := payload.length + 2
             fwd := decide (payload ≠ [0x50]) }
         rsp := none
         err := none }] ∧
    ∃ t, Sys2Proof.core.run (payload.length + 2) s = .next t ∧
      t.rxState = .idle ∧ t.rxIdx = 0 ∧ t.inbox = rest

/-! ## PollScheduler and reset -/

/-- `POLL_CHECK` fires exactly when at least the interval has passed since the last trigger, modulo
2^32: it re-arms from `now` and sends one inquiry burst; else it changes nothing
(spec/60_exceptions.md R206). -/
def Obligations.PollCheckFiresWhenIntervalElapsed : Prop :=
  ∀ (now : Word) (s : State),
    (s.cfg.pollIntervalMs ≤ (now.toNat + 2 ^ 32 - s.lastPoll.toNat) % 2 ^ 32 →
      exec (.pollCheck now) s = .next { s with
        lastPoll := now
        out := { tx := inquiryPackets s.cfg.nCameras, frame := none, rsp := none, err := none }
        txSink := s.txSink ++ inquiryPackets s.cfg.nCameras }) ∧
    ((now.toNat + 2 ^ 32 - s.lastPoll.toNat) % 2 ^ 32 < s.cfg.pollIntervalMs →
      exec (.pollCheck now) s = .next s.afterQuiet)

/-- Two poll bursts with no reset and no other poll burst between them have triggers at least the interval
apart, as measured by `now`, whatever else falls between: any other operation, an error, and poll checks
that find the interval not yet elapsed (spec/60_exceptions.md R208). -/
def Obligations.PollBurstsAreAnIntervalApart : Prop :=
  ∀ (s t u v : State) (now now' : Word),
    exec (.pollCheck now) s = .next t → t.out.tx ≠ [] →
    UntriggeredRun t u →
    exec (.pollCheck now') u = .next v → v.out.tx ≠ [] →
    s.cfg.pollIntervalMs ≤ (now'.toNat + 2 ^ 32 - now.toNat) % 2 ^ 32

/-- `RESET` sends nothing, hands over no frame, and puts every register at its reset value; the same at any
time (spec/70_reset_and_hazards.md R220). Two clauses are the model's choice: that the bytes of `rxbuf`
stay as they were (notes/assumptions/6.md; R29 and R37 of spec/10_state.md leave them unspecified), and
that the events that wait stay (notes/assumptions/3.md). -/
def Obligations.ResetSetsEveryRegister : Prop :=
  ∀ (s : State) (k : Camera),
    k.pan.toNat = s.cfg.panMax.toNat / 2 → k.tilt.toNat = s.cfg.tiltMax.toNat / 2 →
    k.zoom = 0 → k.focus.toInt = -1 →
    exec .reset s = .next { s.afterQuiet with
      cs := List.replicate s.cfg.nCameras k
      rxState := .idle, rxIdx := 0, status := 0, lastPoll := 0 }

/-- The registers after power-up, for every configuration: pan and tilt at their midpoints, zoom 0,
focus -1, `Idle`, `rx_idx` 0, `status` 0, `last_poll` 0 (spec/10_state.md R37). -/
def Obligations.ResetStateHasTheStatedValues : Prop :=
  ∀ c : Config, (State.resetWith c).cs.length = c.nCameras ∧
    (∀ k ∈ (State.resetWith c).cs, k.pan.toNat = c.panMax.toNat / 2 ∧
      k.tilt.toNat = c.tiltMax.toNat / 2 ∧ k.zoom = 0 ∧ k.focus.toInt = -1) ∧
    (State.resetWith c).rxState = .idle ∧ (State.resetWith c).rxIdx = 0 ∧
    (State.resetWith c).status = 0 ∧ (State.resetWith c).lastPoll = 0
end

