-- ==== Sys2Proof/Laws/Decode.lean ====
section
/-! SUPPORT. The request word and its fields, the two directions. -/

namespace Sys2Proof

@[simp] theorem reqOp_request (op cam : Byte) (a b : Word) : reqOp (request op cam a b) = op := by
  apply BitVec.eq_of_getLsbD_eq
  intro i hi
  simp only [reqOp, request, BitVec.getLsbD_extractLsb', BitVec.getLsbD_append, hi]
  simp [show ¬ 72 + i < 32 by omega, show ¬ 72 + i - 32 < 32 by omega,
    show ¬ 72 + i - 32 - 32 < 8 by omega, show 72 + i - 32 - 32 - 8 = i by omega]

@[simp] theorem reqCam_request (op cam : Byte) (a b : Word) : reqCam (request op cam a b) = cam := by
  apply BitVec.eq_of_getLsbD_eq
  intro i hi
  simp only [reqCam, request, BitVec.getLsbD_extractLsb', BitVec.getLsbD_append, hi]
  simp [show ¬ 64 + i < 32 by omega, show ¬ 64 + i - 32 < 32 by omega,
    show 64 + i - 32 - 32 = i by omega, hi]

@[simp] theorem reqA_request (op cam : Byte) (a b : Word) : reqA (request op cam a b) = a := by
  apply BitVec.eq_of_getLsbD_eq
  intro i hi
  simp only [reqA, request, BitVec.getLsbD_extractLsb', BitVec.getLsbD_append, hi]
  simp [show ¬ 32 + i < 32 by omega, show 32 + i - 32 = i by omega, hi]

@[simp] theorem reqB_request (op cam : Byte) (a b : Word) : reqB (request op cam a b) = b := by
  apply BitVec.eq_of_getLsbD_eq
  intro i hi
  simp only [reqB, request, BitVec.getLsbD_extractLsb', BitVec.getLsbD_append, hi]
  simp [hi]

/-- A request is decoded by its four fields. -/
theorem decodeRequest_request (op cam : Byte) (a b : Word) :
    decodeRequest (request op cam a b) =
      match op.toNat with
      | 0x00 => .ok (.blink cam a b)
      | 0x01 => .ok (.flip cam a)
      | 0x02 => .ok (.mirror cam a)
      | 0x03 => .ok (.backlight cam a)
      | 0x04 => .ok (.motionDetect cam a)
      | 0x05 => .ok (.whiteBalance cam a)
      | 0x06 => .ok (.iris cam a)
      | 0x07 => .ok (.relMove cam a b)
      | 0x08 => .ok (.absMove cam)
      | 0x09 => .ok .inquireAll
      | 0x10 => .ok (.setPan cam a)
      | 0x11 => .ok (.setTilt cam a)
      | 0x12 => .ok (.setZoom cam a)
      | 0x13 => .ok (.setFocus cam a)
      | 0x14 => .ok (.getPan cam)
      | 0x15 => .ok (.getTilt cam)
      | 0x16 => .ok (.getZoom cam)
      | 0x17 => .ok (.getFocus cam)
      | _ => .error (.illegalOp op) := by
  simp only [decodeRequest, reqOp_request, reqCam_request, reqA_request, reqB_request] <;>
    rfl

end Sys2Proof
end

