-- ==== Sys2Proof/Laws/State.lean ====
section
/-! SUPPORT. What each update of the state leaves in each field: one lemma per field per update, so that
later proofs unfold no record update. -/

namespace Sys2Proof.Machine

/-! Fields after `finish`. -/

@[simp] theorem State.finish_cfg (s : State) (o : Outputs) : (s.finish o).cfg = s.cfg := rfl
@[simp] theorem State.finish_cs (s : State) (o : Outputs) : (s.finish o).cs = s.cs := rfl
@[simp] theorem State.finish_rxState (s : State) (o : Outputs) :
    (s.finish o).rxState = s.rxState := rfl
@[simp] theorem State.finish_rxIdx (s : State) (o : Outputs) : (s.finish o).rxIdx = s.rxIdx := rfl
@[simp] theorem State.finish_rxbuf (s : State) (o : Outputs) : (s.finish o).rxbuf = s.rxbuf := rfl
@[simp] theorem State.finish_status (s : State) (o : Outputs) :
    (s.finish o).status = s.status := rfl
@[simp] theorem State.finish_lastPoll (s : State) (o : Outputs) :
    (s.finish o).lastPoll = s.lastPoll := rfl
@[simp] theorem State.finish_inbox (s : State) (o : Outputs) : (s.finish o).inbox = s.inbox := rfl
@[simp] theorem State.finish_out (s : State) (o : Outputs) : (s.finish o).out = o := rfl
@[simp] theorem State.finish_txSink (s : State) (o : Outputs) :
    (s.finish o).txSink = s.txSink ++ o.tx := rfl

/-! Fields after `setStatus`. -/

@[simp] theorem State.setStatus_cfg (s : State) (e : BlockError) :
    (s.setStatus e).cfg = s.cfg := rfl
@[simp] theorem State.setStatus_cs (s : State) (e : BlockError) : (s.setStatus e).cs = s.cs := rfl
@[simp] theorem State.setStatus_rxState (s : State) (e : BlockError) :
    (s.setStatus e).rxState = s.rxState := rfl
@[simp] theorem State.setStatus_rxIdx (s : State) (e : BlockError) :
    (s.setStatus e).rxIdx = s.rxIdx := rfl
@[simp] theorem State.setStatus_rxbuf (s : State) (e : BlockError) :
    (s.setStatus e).rxbuf = s.rxbuf := rfl
@[simp] theorem State.setStatus_status (s : State) (e : BlockError) :
    (s.setStatus e).status = s.status ||| e.statusBit := rfl
@[simp] theorem State.setStatus_lastPoll (s : State) (e : BlockError) :
    (s.setStatus e).lastPoll = s.lastPoll := rfl
@[simp] theorem State.setStatus_inbox (s : State) (e : BlockError) :
    (s.setStatus e).inbox = s.inbox := rfl
@[simp] theorem State.setStatus_out (s : State) (e : BlockError) :
    (s.setStatus e).out = s.out := rfl
@[simp] theorem State.setStatus_txSink (s : State) (e : BlockError) :
    (s.setStatus e).txSink = s.txSink := rfl

/-! Fields after `setCamera`. -/

@[simp] theorem State.setCamera_cfg (s : State) (c : Nat) (k : Camera) :
    (s.setCamera c k).cfg = s.cfg := rfl
@[simp] theorem State.setCamera_cs (s : State) (c : Nat) (k : Camera) :
    (s.setCamera c k).cs = s.cs.set c k := rfl
@[simp] theorem State.setCamera_rxState (s : State) (c : Nat) (k : Camera) :
    (s.setCamera c k).rxState = s.rxState := rfl
@[simp] theorem State.setCamera_rxIdx (s : State) (c : Nat) (k : Camera) :
    (s.setCamera c k).rxIdx = s.rxIdx := rfl
@[simp] theorem State.setCamera_rxbuf (s : State) (c : Nat) (k : Camera) :
    (s.setCamera c k).rxbuf = s.rxbuf := rfl
@[simp] theorem State.setCamera_status (s : State) (c : Nat) (k : Camera) :
    (s.setCamera c k).status = s.status := rfl
@[simp] theorem State.setCamera_lastPoll (s : State) (c : Nat) (k : Camera) :
    (s.setCamera c k).lastPoll = s.lastPoll := rfl
@[simp] theorem State.setCamera_inbox (s : State) (c : Nat) (k : Camera) :
    (s.setCamera c k).inbox = s.inbox := rfl
@[simp] theorem State.setCamera_out (s : State) (c : Nat) (k : Camera) :
    (s.setCamera c k).out = s.out := rfl
@[simp] theorem State.setCamera_txSink (s : State) (c : Nat) (k : Camera) :
    (s.setCamera c k).txSink = s.txSink := rfl

/-! Fields after `sendBurst`. -/

@[simp] theorem State.sendBurst_cfg (s : State) (l : List Byte) : (s.sendBurst l).cfg = s.cfg := rfl
@[simp] theorem State.sendBurst_cs (s : State) (l : List Byte) : (s.sendBurst l).cs = s.cs := rfl
@[simp] theorem State.sendBurst_rxState (s : State) (l : List Byte) :
    (s.sendBurst l).rxState = s.rxState := rfl
@[simp] theorem State.sendBurst_rxIdx (s : State) (l : List Byte) :
    (s.sendBurst l).rxIdx = s.rxIdx := rfl
@[simp] theorem State.sendBurst_rxbuf (s : State) (l : List Byte) :
    (s.sendBurst l).rxbuf = s.rxbuf := rfl
@[simp] theorem State.sendBurst_status (s : State) (l : List Byte) :
    (s.sendBurst l).status = s.status := rfl
@[simp] theorem State.sendBurst_lastPoll (s : State) (l : List Byte) :
    (s.sendBurst l).lastPoll = s.lastPoll := rfl
@[simp] theorem State.sendBurst_inbox (s : State) (l : List Byte) :
    (s.sendBurst l).inbox = s.inbox := rfl
@[simp] theorem State.sendBurst_out (s : State) (l : List Byte) :
    (s.sendBurst l).out = { Outputs.quiet with tx := l, rsp := some 0 } := rfl
@[simp] theorem State.sendBurst_txSink (s : State) (l : List Byte) :
    (s.sendBurst l).txSink = s.txSink ++ l := rfl

/-! Fields after `raiseError`. -/

@[simp] theorem State.raiseError_cfg (s : State) (e : BlockError) :
    (s.raiseError e).cfg = s.cfg := rfl
@[simp] theorem State.raiseError_cs (s : State) (e : BlockError) : (s.raiseError e).cs = s.cs := rfl
@[simp] theorem State.raiseError_rxState (s : State) (e : BlockError) :
    (s.raiseError e).rxState = s.rxState := rfl
@[simp] theorem State.raiseError_rxIdx (s : State) (e : BlockError) :
    (s.raiseError e).rxIdx = s.rxIdx := rfl
@[simp] theorem State.raiseError_rxbuf (s : State) (e : BlockError) :
    (s.raiseError e).rxbuf = s.rxbuf := rfl
@[simp] theorem State.raiseError_status (s : State) (e : BlockError) :
    (s.raiseError e).status = s.status ||| e.statusBit := rfl
@[simp] theorem State.raiseError_lastPoll (s : State) (e : BlockError) :
    (s.raiseError e).lastPoll = s.lastPoll := rfl
@[simp] theorem State.raiseError_inbox (s : State) (e : BlockError) :
    (s.raiseError e).inbox = s.inbox := rfl
@[simp] theorem State.raiseError_out (s : State) (e : BlockError) :
    (s.raiseError e).out = { Outputs.quiet with rsp := e.response, err := some e } := rfl
@[simp] theorem State.raiseError_txSink (s : State) (e : BlockError) : (s.raiseError e).txSink = s.txSink :=
  List.append_nil s.txSink

/-! Fields after `respond`. -/

@[simp] theorem State.respond_cfg (s : State) (v : Word) : (s.respond v).cfg = s.cfg := rfl
@[simp] theorem State.respond_cs (s : State) (v : Word) : (s.respond v).cs = s.cs := rfl
@[simp] theorem State.respond_rxState (s : State) (v : Word) :
    (s.respond v).rxState = s.rxState := rfl
@[simp] theorem State.respond_rxIdx (s : State) (v : Word) : (s.respond v).rxIdx = s.rxIdx := rfl
@[simp] theorem State.respond_rxbuf (s : State) (v : Word) : (s.respond v).rxbuf = s.rxbuf := rfl
@[simp] theorem State.respond_status (s : State) (v : Word) : (s.respond v).status = s.status := rfl
@[simp] theorem State.respond_lastPoll (s : State) (v : Word) :
    (s.respond v).lastPoll = s.lastPoll := rfl
@[simp] theorem State.respond_inbox (s : State) (v : Word) : (s.respond v).inbox = s.inbox := rfl
@[simp] theorem State.respond_out (s : State) (v : Word) :
    (s.respond v).out = { Outputs.quiet with rsp := some v } := rfl
@[simp] theorem State.respond_txSink (s : State) (v : Word) : (s.respond v).txSink = s.txSink :=
  List.append_nil s.txSink

/-! Fields after `toIdle`. -/

@[simp] theorem State.toIdle_cfg (s : State) : s.toIdle.cfg = s.cfg := rfl
@[simp] theorem State.toIdle_cs (s : State) : s.toIdle.cs = s.cs := rfl
@[simp] theorem State.toIdle_rxState (s : State) : s.toIdle.rxState = .idle := rfl
@[simp] theorem State.toIdle_rxIdx (s : State) : s.toIdle.rxIdx = 0 := rfl
@[simp] theorem State.toIdle_rxbuf (s : State) : s.toIdle.rxbuf = s.rxbuf := rfl
@[simp] theorem State.toIdle_status (s : State) : s.toIdle.status = s.status := rfl
@[simp] theorem State.toIdle_lastPoll (s : State) : s.toIdle.lastPoll = s.lastPoll := rfl
@[simp] theorem State.toIdle_inbox (s : State) : s.toIdle.inbox = s.inbox := rfl
@[simp] theorem State.toIdle_out (s : State) : s.toIdle.out = s.out := rfl
@[simp] theorem State.toIdle_txSink (s : State) : s.toIdle.txSink = s.txSink := rfl

/-! Fields after `startFrame`. -/

@[simp] theorem State.startFrame_cfg (s : State) : s.startFrame.cfg = s.cfg := rfl
@[simp] theorem State.startFrame_cs (s : State) : s.startFrame.cs = s.cs := rfl
@[simp] theorem State.startFrame_rxState (s : State) : s.startFrame.rxState = .receiving := rfl
@[simp] theorem State.startFrame_rxIdx (s : State) : s.startFrame.rxIdx = 1 := rfl
@[simp] theorem State.startFrame_rxbuf (s : State) :
    s.startFrame.rxbuf = s.rxbuf.set 0 startByte := rfl
@[simp] theorem State.startFrame_status (s : State) : s.startFrame.status = s.status := rfl
@[simp] theorem State.startFrame_lastPoll (s : State) : s.startFrame.lastPoll = s.lastPoll := rfl
@[simp] theorem State.startFrame_inbox (s : State) : s.startFrame.inbox = s.inbox := rfl
@[simp] theorem State.startFrame_out (s : State) : s.startFrame.out = s.out := rfl
@[simp] theorem State.startFrame_txSink (s : State) : s.startFrame.txSink = s.txSink := rfl

/-! Fields after `appendByte`. -/

@[simp] theorem State.appendByte_cfg (s : State) (b : Byte) : (s.appendByte b).cfg = s.cfg := rfl
@[simp] theorem State.appendByte_cs (s : State) (b : Byte) : (s.appendByte b).cs = s.cs := rfl
@[simp] theorem State.appendByte_rxState (s : State) (b : Byte) :
    (s.appendByte b).rxState = s.rxState := rfl
@[simp] theorem State.appendByte_rxIdx (s : State) (b : Byte) :
    (s.appendByte b).rxIdx = s.rxIdx + 1 := rfl
@[simp] theorem State.appendByte_rxbuf (s : State) (b : Byte) :
    (s.appendByte b).rxbuf = s.rxbuf.set s.rxIdx b := rfl
@[simp] theorem State.appendByte_status (s : State) (b : Byte) :
    (s.appendByte b).status = s.status := rfl
@[simp] theorem State.appendByte_lastPoll (s : State) (b : Byte) :
    (s.appendByte b).lastPoll = s.lastPoll := rfl
@[simp] theorem State.appendByte_inbox (s : State) (b : Byte) :
    (s.appendByte b).inbox = s.inbox := rfl
@[simp] theorem State.appendByte_out (s : State) (b : Byte) : (s.appendByte b).out = s.out := rfl
@[simp] theorem State.appendByte_txSink (s : State) (b : Byte) :
    (s.appendByte b).txSink = s.txSink := rfl

/-! Fields after `storeCamera`. -/

@[simp] theorem State.storeCamera_cfg (s : State) (c : Nat) (k : Camera) :
    (s.storeCamera c k).cfg = s.cfg := rfl
@[simp] theorem State.storeCamera_cs (s : State) (c : Nat) (k : Camera) :
    (s.storeCamera c k).cs = s.cs.set c k := rfl
@[simp] theorem State.storeCamera_rxState (s : State) (c : Nat) (k : Camera) :
    (s.storeCamera c k).rxState = s.rxState := rfl
@[simp] theorem State.storeCamera_rxIdx (s : State) (c : Nat) (k : Camera) :
    (s.storeCamera c k).rxIdx = s.rxIdx := rfl
@[simp] theorem State.storeCamera_rxbuf (s : State) (c : Nat) (k : Camera) :
    (s.storeCamera c k).rxbuf = s.rxbuf := rfl
@[simp] theorem State.storeCamera_status (s : State) (c : Nat) (k : Camera) :
    (s.storeCamera c k).status = s.status := rfl
@[simp] theorem State.storeCamera_lastPoll (s : State) (c : Nat) (k : Camera) :
    (s.storeCamera c k).lastPoll = s.lastPoll := rfl
@[simp] theorem State.storeCamera_inbox (s : State) (c : Nat) (k : Camera) :
    (s.storeCamera c k).inbox = s.inbox := rfl
@[simp] theorem State.storeCamera_out (s : State) (c : Nat) (k : Camera) :
    (s.storeCamera c k).out = { Outputs.quiet with tx := [], rsp := some 0 } := rfl
@[simp] theorem State.storeCamera_txSink (s : State) (c : Nat) (k : Camera) : (s.storeCamera c k).txSink = s.txSink :=
  List.append_nil s.txSink

/-! Fields after `completeFrame`. -/

@[simp] theorem State.completeFrame_cfg (s : State) : s.completeFrame.cfg = s.cfg := rfl
@[simp] theorem State.completeFrame_cs (s : State) : s.completeFrame.cs = s.cs := rfl
@[simp] theorem State.completeFrame_rxState (s : State) : s.completeFrame.rxState = .idle := rfl
@[simp] theorem State.completeFrame_rxIdx (s : State) : s.completeFrame.rxIdx = 0 := rfl
@[simp] theorem State.completeFrame_rxbuf (s : State) : s.completeFrame.rxbuf = s.rxbuf := rfl
@[simp] theorem State.completeFrame_status (s : State) : s.completeFrame.status = s.status := rfl
@[simp] theorem State.completeFrame_lastPoll (s : State) :
    s.completeFrame.lastPoll = s.lastPoll := rfl
@[simp] theorem State.completeFrame_inbox (s : State) : s.completeFrame.inbox = s.inbox := rfl
@[simp] theorem State.completeFrame_out (s : State) :
    s.completeFrame.out = { Outputs.quiet with frame := some s.frameOf } := rfl
@[simp] theorem State.completeFrame_txSink (s : State) : s.completeFrame.txSink = s.txSink :=
  List.append_nil s.txSink

/-! The outputs of an event that gives none. -/

@[simp] theorem Outputs.quiet_tx : Outputs.quiet.tx = [] := rfl
@[simp] theorem Outputs.quiet_frame : Outputs.quiet.frame = none := rfl
@[simp] theorem Outputs.quiet_rsp : Outputs.quiet.rsp = none := rfl
@[simp] theorem Outputs.quiet_err : Outputs.quiet.err = none := rfl

end Sys2Proof.Machine
end

