-- ==== Sys2Proof/Laws/Ops.lean ====
section
/-! SUPPORT. Once for each shared operation, everything it can do. -/

namespace Sys2Proof.Machine

/-- An operation with a camera operand has its effect on a camera that exists, or raises `IllegalCam`. -/
theorem State.withCamera_cases (s : State) (cam : Byte) (effect : Nat → State) :
    (cam.toNat < s.cfg.nCameras ∧ s.withCamera cam effect = effect cam.toNat) ∨
    (s.cfg.nCameras ≤ cam.toNat ∧ s.withCamera cam effect = s.raiseError .illegalCam) := by
  by_cases h : cam.toNat < s.cfg.nCameras
  · exact .inl ⟨h, if_pos h⟩
  · exact .inr ⟨Nat.le_of_not_lt h, if_neg h⟩

theorem State.withCamera_of_lt {s : State} {cam : Byte} (h : cam.toNat < s.cfg.nCameras)
    (effect : Nat → State) : s.withCamera cam effect = effect cam.toNat := if_pos h

theorem State.withCamera_of_le {s : State} {cam : Byte} (h : s.cfg.nCameras ≤ cam.toNat)
    (effect : Nat → State) : s.withCamera cam effect = s.raiseError .illegalCam :=
  if_neg (Nat.not_lt.mpr h)

/-- Reading a camera that is in the register file. -/
theorem State.camera_of_getElem? {s : State} {c : Nat} {k : Camera} (h : s.cs[c]? = some k) :
    s.camera c = k := by simp [State.camera, h]

/-- A camera that was written reads as written. -/
theorem State.camera_setCamera_self {s : State} {c : Nat} (h : c < s.cs.length) (k : Camera) :
    (s.setCamera c k).camera c = k := by simp [State.camera, State.setCamera, h]

/-- Writing one camera leaves every other. -/
theorem State.camera_setCamera_ne {s : State} {c d : Nat} (h : c ≠ d) (k : Camera) :
    (s.setCamera c k).camera d = s.camera d := by simp [State.camera, State.setCamera, h]

/-- Storing a changed copy of the addressed camera is changing it in place; an index outside the register
file leaves the file. -/
theorem State.set_camera_eq_modify (s : State) (c : Nat) (f : Camera → Camera) :
    s.cs.set c (f (s.camera c)) = s.cs.modify c f := by
  apply List.ext_getElem?
  intro i
  by_cases h : c = i
  · subst h
    by_cases hc : c < s.cs.length <;> simp [State.camera, hc]
  · simp [h]

/-- The six rows of the FrameAssembler's table (spec/46_frame_assembler.md R179), as one case analysis. -/
theorem State.rxByte_cases (s : State) (b : Byte) :
    (b = startByte ∧ s.rxByte b = s.startFrame.finish .quiet) ∨
    (b ≠ startByte ∧ s.rxState = .idle ∧ s.rxByte b = s.finish .quiet) ∨
    (b ≠ startByte ∧ s.rxState = .receiving ∧ s.rxIdx = s.cfg.rxCap ∧
      s.rxByte b = s.toIdle.raiseError .rxOverflow) ∨
    (b = termByte ∧ s.rxState = .receiving ∧ s.rxIdx ≠ s.cfg.rxCap ∧
      s.rxByte b = (s.appendByte b).completeFrame) ∨
    (isPayload b ∧ s.rxState = .receiving ∧ s.rxIdx ≠ s.cfg.rxCap ∧
      s.rxByte b = (s.appendByte b).finish .quiet) := by
  by_cases h1 : b = startByte
  · exact .inl ⟨h1, if_pos h1⟩
  · have h0 : s.rxByte b = _ := if_neg h1
    cases h2 : s.rxState with
    | idle => exact .inr (.inl ⟨h1, rfl, by rw [h0, h2]⟩)
    | receiving =>
      rw [h2] at h0
      by_cases h3 : s.rxIdx = s.cfg.rxCap
      · exact .inr (.inr (.inl ⟨h1, rfl, h3, h0.trans (if_pos h3)⟩))
      · replace h0 := h0.trans (if_neg h3)
        by_cases h4 : b = termByte
        · exact .inr (.inr (.inr (.inl ⟨h4, rfl, h3, h0.trans (if_pos h4)⟩)))
        · exact .inr (.inr (.inr (.inr ⟨⟨h1, h4⟩, rfl, h3, h0.trans (if_neg h4)⟩)))

/-- A poll check fires and re-arms, or does nothing. -/
theorem execPollCheck_cases (now : Word) (s : State) :
    (s.cfg.pollIntervalMs ≤ s.elapsed now ∧ execPollCheck now s = .next ({ s with lastPoll := now }.finish
      { Outputs.quiet with tx := inquiryBurst s.cfg.nCameras })) ∨
    (s.elapsed now < s.cfg.pollIntervalMs ∧ execPollCheck now s = .next (s.finish .quiet)) := by
  by_cases h : s.cfg.pollIntervalMs ≤ s.elapsed now
  · exact .inl ⟨h, if_pos h⟩
  · exact .inr ⟨Nat.lt_of_not_le h, if_neg h⟩

/-- The buffer and the length of a shaped state stay under every buffer update. -/
@[simp] theorem State.appendByte_rxbuf_length (s : State) (b : Byte) :
    (s.appendByte b).rxbuf.length = s.rxbuf.length := by simp

end Sys2Proof.Machine
end

