-- ==== Sys2Proof/Laws/Operands.lean ====
section
/-! SUPPORT. The operand helpers in plain terms: lengths, ranges, and the forms statements are written
in. -/

namespace Sys2Proof.Machine

@[simp] theorem toNibbles_length (v : Int) : (toNibbles v).length = 4 := rfl

@[simp] theorem wrap_length (body : List Byte) (c : Nat) : (wrap body c).length = body.length + 2 := by
  simp [wrap]

/-- A packet of the encoder is a packet in the statements' terms. -/
theorem wrap_eq_packet (body : List Byte) (c : Nat) : wrap body c = packet (c, body) := rfl

@[simp] theorem addrByte_toNat (cam : Byte) : addrByte cam.toNat = 0x81 + cam := by simp [addrByte]

/-- A nibble byte is 0 to 15. -/
theorem nibble_toNat_le (u : BitVec 16) (k : Nat) : (nibble u k).toNat ≤ 15 := by
  simp only [nibble, BitVec.toNat_setWidth, BitVec.toNat_and, BitVec.toNat_ushiftRight]
  exact Nat.le_trans (Nat.mod_le _ _) (Nat.and_le_right)

theorem speed_toNat (d : Int) : (speed d).toNat = min 31 ((d.natAbs * 31 + 50) / 100) := by
  simp only [speed, speedMax, speedInFull, BitVec.toNat_ofNat]
  omega

/-- `clamp` as a maximum of a minimum. -/
theorem clamp_eq {v lo hi : Int} (h : lo ≤ hi) : clamp v lo hi = max lo (min v hi) := by
  unfold clamp
  split
  · omega
  · split <;> omega

theorem lowByte_eq (a : Word) : lowByte a = BitVec.ofNat 8 a.toNat := by
  apply BitVec.eq_of_toNat_eq
  simp [lowByte]

/-- The inquiry burst is the inquiry packets of the statements. -/
theorem inquiryBurst_eq (n : Nat) : inquiryBurst n = inquiryPackets n := by
  induction n with
  | zero => rfl
  | succ n ih => simp [inquiryPackets, ← ih, inquiryBurst, List.range_succ, wrap, addrByte]

@[simp] theorem inquiryBurst_length (n : Nat) : (inquiryBurst n).length = 5 * n := by
  rw [inquiryBurst_eq]
  induction n with
  | zero => rfl
  | succ n ih => simp only [inquiryPackets, List.length_append, ih, List.length_cons, List.length_nil]; omega

end Sys2Proof.Machine
end

