-- ==== Sys2Proof/Laws/PerInstr.lean ====
section
/-! SUPPORT. The per-operation family `EncodedOp`: the event an operation is encoded as carries, on its
port, the code of its row in spec/opcode_table.json. -/

namespace Sys2Proof.Laws

/-- The operation code on the command port, `none` for an event of another port. -/
def eventOp : Event → Option Byte
  | .cmd w => some (reqOp w)
  | .rxByte _ => none
  | .pollCheck _ => none
  | .reset => none

/-- The code of a row of spec/30_encoding.md R71; rows of the other ports have none (R72). -/
def rowOp : Instr → Option Byte
  | .blink _ _ _ => some 0x00
  | .flip _ _ => some 0x01
  | .mirror _ _ => some 0x02
  | .backlight _ _ => some 0x03
  | .motionDetect _ _ => some 0x04
  | .whiteBalance _ _ => some 0x05
  | .iris _ _ => some 0x06
  | .relMove _ _ _ => some 0x07
  | .absMove _ => some 0x08
  | .inquireAll => some 0x09
  | .setPan _ _ => some 0x10
  | .setTilt _ _ => some 0x11
  | .setZoom _ _ => some 0x12
  | .setFocus _ _ => some 0x13
  | .getPan _ => some 0x14
  | .getTilt _ => some 0x15
  | .getZoom _ => some 0x16
  | .getFocus _ => some 0x17
  | .rxStart => none
  | .rxTerm => none
  | .rxData _ => none
  | .pollCheck _ => none
  | .reset => none

/-- The encoding of `i` carries its row's code. -/
def EncodedOp.Statement (i : Instr) : Prop := eventOp (encode i) = rowOp i

theorem EncodedOp.blink (x : Byte) (y : Word) (z : Word) :
    EncodedOp.Statement (.blink x y z) :=
  congrArg some (reqOp_request ..)

theorem EncodedOp.flip (x : Byte) (y : Word) :
    EncodedOp.Statement (.flip x y) :=
  congrArg some (reqOp_request ..)

theorem EncodedOp.mirror (x : Byte) (y : Word) :
    EncodedOp.Statement (.mirror x y) :=
  congrArg some (reqOp_request ..)

theorem EncodedOp.backlight (x : Byte) (y : Word) :
    EncodedOp.Statement (.backlight x y) :=
  congrArg some (reqOp_request ..)

theorem EncodedOp.motionDetect (x : Byte) (y : Word) :
    EncodedOp.Statement (.motionDetect x y) :=
  congrArg some (reqOp_request ..)

theorem EncodedOp.whiteBalance (x : Byte) (y : Word) :
    EncodedOp.Statement (.whiteBalance x y) :=
  congrArg some (reqOp_request ..)

theorem EncodedOp.iris (x : Byte) (y : Word) :
    EncodedOp.Statement (.iris x y) :=
  congrArg some (reqOp_request ..)

theorem EncodedOp.relMove (x : Byte) (y : Word) (z : Word) :
    EncodedOp.Statement (.relMove x y z) :=
  congrArg some (reqOp_request ..)

theorem EncodedOp.absMove (x : Byte) :
    EncodedOp.Statement (.absMove x) :=
  congrArg some (reqOp_request ..)

theorem EncodedOp.inquireAll :
    EncodedOp.Statement (.inquireAll) :=
  congrArg some (reqOp_request ..)

theorem EncodedOp.setPan (x : Byte) (y : Word) :
    EncodedOp.Statement (.setPan x y) :=
  congrArg some (reqOp_request ..)

theorem EncodedOp.setTilt (x : Byte) (y : Word) :
    EncodedOp.Statement (.setTilt x y) :=
  congrArg some (reqOp_request ..)

theorem EncodedOp.setZoom (x : Byte) (y : Word) :
    EncodedOp.Statement (.setZoom x y) :=
  congrArg some (reqOp_request ..)

theorem EncodedOp.setFocus (x : Byte) (y : Word) :
    EncodedOp.Statement (.setFocus x y) :=
  congrArg some (reqOp_request ..)

theorem EncodedOp.getPan (x : Byte) :
    EncodedOp.Statement (.getPan x) :=
  congrArg some (reqOp_request ..)

theorem EncodedOp.getTilt (x : Byte) :
    EncodedOp.Statement (.getTilt x) :=
  congrArg some (reqOp_request ..)

theorem EncodedOp.getZoom (x : Byte) :
    EncodedOp.Statement (.getZoom x) :=
  congrArg some (reqOp_request ..)

theorem EncodedOp.getFocus (x : Byte) :
    EncodedOp.Statement (.getFocus x) :=
  congrArg some (reqOp_request ..)

theorem EncodedOp.rxStart :
    EncodedOp.Statement (.rxStart) := rfl

theorem EncodedOp.rxTerm :
    EncodedOp.Statement (.rxTerm) := rfl

theorem EncodedOp.rxData (x : Byte) :
    EncodedOp.Statement (.rxData x) := rfl

theorem EncodedOp.pollCheck (x : Word) :
    EncodedOp.Statement (.pollCheck x) := rfl

theorem EncodedOp.reset :
    EncodedOp.Statement (.reset) := rfl

end Sys2Proof.Laws
end

