-- ==== Sys2Proof/Laws/Step.lean ====
section
/-! SUPPORT. Everything a step can do, in terms of the event it takes and the operation's meaning. -/

namespace Sys2Proof.Machine

/-- A next state comes from a shaped state, by no event, by an operation's meaning, or by
`IllegalOp`. -/
theorem step_cases {s t : State} (h : step s = .next t) :
    s.shaped ∧
    ((s.inbox = [] ∧ t = s.finish .quiet) ∨
     (∃ e rest i, s.inbox = e :: rest ∧ decode e = .ok i ∧
       exec i { s with inbox := rest } = .next t) ∨
     (∃ e rest op, s.inbox = e :: rest ∧ decode e = .error (.illegalOp op) ∧
       t = { s with inbox := rest }.raiseError .illegalOp)) := by
  unfold step at h
  split at h
  case isFalse => cases h
  case isTrue hs =>
    refine ⟨hs, ?_⟩
    cases hin : s.inbox with
    | nil =>
      simp only [State.runNext, hin, Host.Outcome.next.injEq] at h
      exact .inl ⟨rfl, h.symm⟩
    | cons e rest =>
      simp only [State.runNext, hin, State.runEvent] at h
      cases hd : decode e with
      | ok i =>
        simp only [hd] at h
        exact .inr (.inl ⟨e, rest, i, rfl, hd, h⟩)
      | error r =>
        cases r with
        | illegalOp op =>
          simp only [hd, Host.Outcome.next.injEq] at h
          exact .inr (.inr ⟨e, rest, op, rfl, hd, h.symm⟩)

/-- Every operation answers a next state in every state. -/
theorem exec_next (i : Instr) (s : State) : ∃ t, exec i s = .next t := by
  cases i <;> first
    | exact ⟨_, rfl⟩
    | (rename_i now
       rcases execPollCheck_cases now s with ⟨_, h⟩ | ⟨_, h⟩ <;> exact ⟨_, h⟩)

end Sys2Proof.Machine
end

