-- ==== Sys2Proof/Laws/Receive.lean ====
section
/-! SUPPORT. The receive buffer as a list: what a store at `rx_idx` leaves below it, and what the first
`rx_idx` bytes are after it. -/

namespace Sys2Proof.Machine

theorem take_set_same (l : List Byte) (n : Nat) (b : Byte) : (l.set n b).take n = l.take n := by
  apply List.ext_getElem?
  intro i
  by_cases h : i < n
  · simp [h, List.getElem?_set_ne (show n ≠ i by omega)]
  · simp [h]

theorem take_succ_set {l : List Byte} {n : Nat} (h : n < l.length) (b : Byte) :
    (l.set n b).take (n + 1) = l.take n ++ [b] := by
  rw [List.take_add_one, take_set_same]
  simp [h]

/-- The bytes of the frame that a stored byte completes (spec/46_frame_assembler.md R177). -/
theorem State.frameOf_appendByte_bytes {s : State} (h : s.rxIdx < s.rxbuf.length) (b : Byte) :
    (s.appendByte b).frameOf.bytes = s.rxbuf.take s.rxIdx ++ [b] := by
  simp only [State.frameOf, State.appendByte_rxbuf, State.appendByte_rxIdx]
  exact take_succ_set h b

@[simp] theorem State.frameOf_len (s : State) : s.frameOf.len = s.rxIdx := rfl

/-- An operation that is a received byte is `RXBYTE` of some byte. -/
theorem exec_of_isRxByte {i : Instr} (h : isRxByte i = true) (s : State) :
    ∃ b, exec i s = .next (s.rxByte b) := by
  cases i <;> first
    | exact ⟨_, rfl⟩
    | simp [isRxByte] at h

end Sys2Proof.Machine
end

