-- ==== Sys2Proof/Tests/Slice0.lean ====
section
/-! SUPPORT. Tests: encodings written out from spec/30_encoding.md, vectors of spec/95_test_vectors.md (each
named by its id), and a witness for the hypotheses of every statement that has some. Expected values
are the spec's. -/

namespace Sys2Proof.Tests

open Sys2Proof.Machine

/-! ## Helpers -/

def next? : Result → Option State
  | .next t => some t
  | .fault _ => none
  | .refused _ => none

def out? (r : Result) : Option Outputs := (next? r).map (fun t => t.out)

def tx? (r : Result) : Option (List Byte) := (out? r).map (fun o => o.tx)

def rsp? (r : Result) : Option Word := (out? r).bind (fun o => o.rsp)

def frame? (r : Result) : Option Frame := (out? r).bind (fun o => o.frame)

def camera? (r : Result) (c : Nat) : Option Camera := (next? r).bind (fun t => t.cs[c]?)

/-- The reset state with camera `c` holding `k`. -/
def withCam (c : Nat) (k : Camera) : State := { State.reset with cs := State.reset.cs.set c k }

/-- The reset state of a block in `Receiving` with the partial frame `bytes`. -/
def receiving (bytes : List Byte) : State :=
  { State.reset with
    rxState := .receiving
    rxIdx := bytes.length
    rxbuf := bytes ++ List.replicate (17 - bytes.length) 0xAA }

/-- 17 buffered bytes: the full buffer of V-RX7. -/
def full : State :=
  receiving [0x90, 1, 2, 3, 4, 5, 6, 7, 8, 9, 10, 11, 12, 13, 14, 15, 16]

/-- 16 buffered bytes: one place left. -/
def almostFull : State :=
  receiving [0x90, 1, 2, 3, 4, 5, 6, 7, 8, 9, 10, 11, 12, 13, 14, 15]

/-- The reset state with these events offered. -/
def offered (es : List Event) : State := { State.reset with inbox := es }

/-- A configuration at the lower bounds of spec/00_scope.md R5. -/
def smallest : Config :=
  { nCameras := 1, rxCap := 2, pollIntervalMs := 0, panMax := 0, tiltMax := 0, zoomMax := 0,
    focusMax := 0 }

/-! ## Well-formedness -/

theorem test_rxData_start_is_ill_formed : Instr.wellFormed (.rxData 0x90) = false := by decide
theorem test_rxData_term_is_ill_formed : Instr.wellFormed (.rxData 0xFF) = false := by decide
theorem test_rxData_payload_is_well_formed : Instr.wellFormed (.rxData 0x41) = true := by decide
theorem test_out_of_range_camera_is_well_formed : Instr.wellFormed (.flip 255 1) = true := by decide

/-! ## Decoding, one written-out word per constructor (R70, R71, R84; words of spec/95_test_vectors.md) -/

theorem test_decode_blink : decodeTableWord 80 0x0006000001FEFFFFFFFF =
    some (.blink 6 0x1FE (-1)) := by decide
theorem test_decode_flip : decodeTableWord 80 0x0100FFFFFFF900000063 = some (.flip 0 (-7)) := by decide
theorem test_decode_mirror : decodeTableWord 80 0x02030000000000000000 = some (.mirror 3 0) := by decide
theorem test_decode_backlight : decodeTableWord 80 0x03020000000100000000 =
    some (.backlight 2 1) := by decide
theorem test_decode_motionDetect : decodeTableWord 80 0x04000000010000000000 =
    some (.motionDetect 0 256) := by decide
theorem test_decode_whiteBalance : decodeTableWord 80 0x05030001117000000000 =
    some (.whiteBalance 3 70000) := by decide
theorem test_decode_iris : decodeTableWord 80 0x0605FFFF000000000000 =
    some (.iris 5 (-65536)) := by decide
theorem test_decode_relMove : decodeTableWord 80 0x0703000000FAFFFFFFFD =
    some (.relMove 3 250 (-3)) := by decide
theorem test_decode_absMove : decodeTableWord 80 0x0802DEADBEEF12345678 = some (.absMove 2) := by decide
theorem test_decode_inquireAll : decodeTableWord 80 0x09C8FFFFFFFFFFFFFFFF =
    some .inquireAll := by decide
theorem test_decode_setPan : decodeTableWord 80 0x10067FFFFFFF00000000 =
    some (.setPan 6 2147483647) := by decide
theorem test_decode_setTilt : decodeTableWord 80 0x11020000138800000000 =
    some (.setTilt 2 5000) := by decide
theorem test_decode_setZoom : decodeTableWord 80 0x1201FFFFFFFD00000000 =
    some (.setZoom 1 (-3)) := by decide
theorem test_decode_setFocus : decodeTableWord 80 0x1300FFFFFFFB00000000 =
    some (.setFocus 0 (-5)) := by decide
theorem test_decode_getPan : decodeTableWord 80 0x14040000000000000000 = some (.getPan 4) := by decide
theorem test_decode_getTilt : decodeTableWord 80 0x15030000000000000000 = some (.getTilt 3) := by decide
theorem test_decode_getZoom : decodeTableWord 80 0x16070000000000000000 = some (.getZoom 7) := by decide
theorem test_decode_getFocus : decodeTableWord 80 0x17030000000000000000 =
    some (.getFocus 3) := by decide
theorem test_decode_rxStart : decodeTableWord 8 0x90 = some .rxStart := by decide
theorem test_decode_rxTerm : decodeTableWord 8 0xFF = some .rxTerm := by decide
theorem test_decode_rxData : decodeTableWord 8 0x91 = some (.rxData 0x91) := by decide
theorem test_decode_pollCheck : decodeTableWord 32 0x00001644 = some (.pollCheck 5700) := by decide
theorem test_decode_reset : decodeTableWord 0 0 = some .reset := by decide

/-- V-X1 to V-X4: the four ends of the two unassigned ranges. -/
theorem test_decode_unassigned :
    decode (.cmd 0x0A090000000100000002) = .error (.illegalOp 0x0A) ∧
    decode (.cmd 0x0F000000000000000000) = .error (.illegalOp 0x0F) ∧
    decode (.cmd 0x18000000000000000000) = .error (.illegalOp 0x18) ∧
    decode (.cmd 0xFF000000000000000000) = .error (.illegalOp 0xFF) := ⟨rfl, rfl, rfl, rfl⟩

/-- V-CS15, encoded. -/
theorem test_encode_setFocus : encode (.setFocus 0 (-5)) = .cmd 0x1300FFFFFFFB00000000 := by decide

/-! ## Helpers of the encoder (spec/95_test_vectors.md 2.1) -/

/-- V-N6, V-N9, V-N10, V-N12. -/
theorem test_toNibbles : toNibbles 0x1234 = [1, 2, 3, 4] ∧ toNibbles 0x12345 = [2, 3, 4, 5] ∧
    toNibbles (-1) = [15, 15, 15, 15] ∧ toNibbles (-32768) = [8, 0, 0, 0] := by decide

/-- V-H6 to V-H9. -/
theorem test_speed : [0, 1, 2, 3, 4, 5, 8, 10, 25, 33, 49, 50, 51, 66, 75, 95, 96, 98, 99, 2147483647,
    -2, -50, -2147483648].map speed =
    [0, 0, 1, 1, 1, 2, 2, 3, 8, 10, 15, 16, 16, 20, 23, 29, 30, 30, 31, 31, 1, 16, 31] := by decide

/-- V-H1, V-H2, V-H4, V-H5. -/
theorem test_helpers : addrByte 6 = 0x87 ∧ wrap [9, 6, 0x12] 3 = [0x84, 9, 6, 0x12, 0xFF] ∧
    onOff 1 = 2 ∧ onOff 0 = 3 ∧ [7, -7, 0].map dir = [2, 1, 3] := by decide

/-! ## The operations -/

/-- V-S1 (source example E7), run as the first event after reset. -/
theorem test_blink : tx? (step (State.reset.withFetchWord 80 0x00000000000200000001)) =
    some [0x81, 0x01, 0x33, 0x02, 0x01, 0xFF] := by decide
/-- V-S4: low bytes only, 0xFF passed through. -/
theorem test_blink_passthrough : tx? (exec (.blink 6 0x1FE (-1)) State.reset) =
    some [0x87, 0x01, 0x33, 0xFE, 0xFF, 0xFF] := by decide
/-- V-S6 (source example E8). -/
theorem test_flip : tx? (exec (.flip 1 1) State.reset) =
    some [0x82, 0x01, 0x04, 0x66, 0x02, 0xFF] := by decide
/-- V-S7. -/
theorem test_flip_false : tx? (exec (.flip 6 0) State.reset) =
    some [0x87, 0x01, 0x04, 0x66, 0x03, 0xFF] := by decide
/-- V-S9. -/
theorem test_mirror : tx? (exec (.mirror 0 1) State.reset) =
    some [0x81, 0x01, 0x04, 0x61, 0x02, 0xFF] := by decide
/-- V-S11. -/
theorem test_backlight : tx? (exec (.backlight 2 1) State.reset) =
    some [0x83, 0x01, 0x04, 0x33, 0x02, 0x02, 0xFF] := by decide
/-- V-S14. -/
theorem test_motionDetect : tx? (exec (.motionDetect 5 0) State.reset) =
    some [0x86, 0x01, 0x50, 0x30, 0x01, 0x00, 0xFF] := by decide
/-- V-P5. -/
theorem test_whiteBalance_auto : tx? (exec (.whiteBalance 1 (-7)) State.reset) =
    some [0x82, 1, 4, 0x35, 0, 0xFF, 0x82, 1, 4, 0x75, 0xF, 0xF, 0xF, 9, 0xFF] := by decide
/-- V-P8. -/
theorem test_whiteBalance_truncates : tx? (exec (.whiteBalance 3 70000) State.reset) =
    some [0x84, 1, 4, 0x35, 6, 0xFF, 0x84, 1, 4, 0x75, 1, 1, 7, 0, 0xFF] := by decide
/-- V-P14. -/
theorem test_iris : tx? (exec (.iris 6 0xABCD) State.reset) =
    some [0x87, 1, 4, 0x39, 3, 0xFF, 0x87, 1, 4, 0x4B, 0xA, 0xB, 0xC, 0xD, 0xFF] := by decide
/-- V-P16. -/
theorem test_iris_auto : tx? (exec (.iris 5 (-65536)) State.reset) =
    some [0x86, 1, 4, 0x39, 0, 0xFF, 0x86, 1, 4, 0x4B, 0, 0, 0, 0, 0xFF] := by decide
/-- V-M8. -/
theorem test_relMove_extremes : tx? (exec (.relMove 0 (-2147483648) 2147483647) State.reset) =
    some [0x81, 1, 6, 1, 0, 0, 3, 3, 0xFF, 0x81, 1, 6, 1, 0x1F, 0x1F, 1, 2, 0xFF] := by decide
/-- V-M9: `ts` from `dy`, `ps` from `dx`. -/
theorem test_relMove : tx? (exec (.relMove 5 49 51) State.reset) =
    some [0x86, 1, 6, 1, 0, 0, 3, 3, 0xFF, 0x86, 1, 6, 1, 0x0F, 0x10, 2, 2, 0xFF] := by decide
/-- V-A1. -/
theorem test_absMove_after_reset : tx? (exec (.absMove 0) State.reset) =
    some [0x81, 1, 4, 0x38, 2, 0xFF, 0x81, 1, 6, 1, 3, 3, 3, 3, 0xFF, 0x81, 1, 6, 0x20,
      0, 1, 0xF, 0xF, 0, 1, 0xF, 0xF, 0, 0, 0, 0, 0xF, 0xF, 0xF, 0xF, 0xFF] := by decide
/-- V-A2. -/
theorem test_absMove : tx? (exec (.absMove 2) (withCam 2 ⟨800, 300, 2305, 500⟩)) =
    some [0x83, 1, 4, 0x38, 3, 0xFF, 0x83, 1, 6, 1, 3, 3, 3, 3, 0xFF, 0x83, 1, 6, 0x20,
      0, 3, 2, 0, 0, 1, 2, 0xC, 0, 9, 0, 1, 0, 1, 0xF, 4, 0xFF] := by decide
/-- V-Q4. -/
theorem test_inquireAll_three_cameras :
    tx? (exec .inquireAll { State.reset with cfg := { Config.testCfg with nCameras := 3 } }) =
    some [0x81, 9, 6, 0x12, 0xFF, 0x82, 9, 6, 0x12, 0xFF, 0x83, 9, 6, 0x12, 0xFF] := by decide
/-- V-CS6. -/
theorem test_setPan_clamps : camera? (exec (.setPan 6 2147483647) State.reset) 6 =
    some ⟨1023, 511, 0, BitVec.ofInt 17 (-1)⟩ := by decide
/-- V-CS4. -/
theorem test_setPan_negative : camera? (exec (.setPan 0 (-1)) State.reset) 0 =
    some ⟨0, 511, 0, BitVec.ofInt 17 (-1)⟩ := by decide
/-- V-CS8. -/
theorem test_setTilt : camera? (exec (.setTilt 2 300) State.reset) 2 =
    some ⟨511, 300, 0, BitVec.ofInt 17 (-1)⟩ := by decide
/-- V-CS11. -/
theorem test_setZoom : camera? (exec (.setZoom 1 2306) State.reset) 1 =
    some ⟨511, 511, 2305, BitVec.ofInt 17 (-1)⟩ := by decide
/-- V-CS16: 0 is manual. -/
theorem test_setFocus : camera? (exec (.setFocus 0 0) State.reset) 0 = some ⟨511, 511, 0, 0⟩ := by decide
/-- V-CS15. -/
theorem test_setFocus_negative : camera? (exec (.setFocus 0 (-5)) (withCam 0 ⟨511, 511, 0, 7⟩)) 0 =
    some ⟨511, 511, 0, BitVec.ofInt 17 (-1)⟩ := by decide
/-- V-CS20: another camera keeps its reset value. -/
theorem test_getPan : rsp? (exec (.getPan 4) (withCam 3 ⟨77, 511, 0, 0⟩)) = some 511 := by decide
/-- V-CS8. -/
theorem test_getTilt : rsp? (exec (.getTilt 2) (withCam 2 ⟨511, 300, 0, 0⟩)) = some 300 := by decide
/-- V-CS10. -/
theorem test_getZoom : rsp? (exec (.getZoom 1) (withCam 1 ⟨511, 511, 2305, 0⟩)) = some 2305 := by decide
/-- V-CS14: auto focus reads 0xFFFFFFFF. -/
theorem test_getFocus : rsp? (exec (.getFocus 0) State.reset) = some 0xFFFFFFFF := by decide
/-- V-RX9: the start marker at a full buffer restarts, no overflow. -/
theorem test_rxStart_full : (next? (exec .rxStart full)).map
    (fun t => (t.rxState, t.rxIdx, t.status)) = some (.receiving, 1, 0) := by decide
/-- V-RX2 (source example E10): the echo frame, not forwarded. -/
theorem test_rxTerm_echo : frame? (exec .rxTerm (receiving [0x90, 0x50])) =
    some ⟨[0x90, 0x50, 0xFF], 3, false⟩ := by decide
/-- V-RX6: a frame of exactly 17 bytes fits. -/
theorem test_rxTerm_last_place : frame? (exec .rxTerm almostFull) =
    some ⟨[0x90, 1, 2, 3, 4, 5, 6, 7, 8, 9, 10, 11, 12, 13, 14, 15, 0xFF], 17, true⟩ := by decide
/-- V-RX7: the terminator at a full buffer overflows. -/
theorem test_rxTerm_overflow : (next? (exec .rxTerm full)).map
    (fun t => (t.rxState, t.rxIdx, t.status, t.out)) =
    some (.idle, 0, 0b100, ⟨[], none, none, some .rxOverflow⟩) := by decide
/-- V-RX12. -/
theorem test_rxData : (next? (exec (.rxData 0x41) (receiving [0x90]))).map
    (fun t => (t.rxState, t.rxIdx, t.rxbuf.take 2)) = some (.receiving, 2, [0x90, 0x41]) := by decide
/-- V-RX10: discarded in Idle. -/
theorem test_rxData_idle : next? (exec (.rxData 0xA0) State.reset) = some State.reset := by decide
/-- V-T12: the wrap of the time. -/
theorem test_pollCheck_wraps : (next? (exec (.pollCheck 0x1E8)
    { State.reset with lastPoll := 0xFFFFFE00 })).map (fun t => (t.lastPoll, t.out.tx.length)) =
    some (0x1E8, 35) := by decide
/-- V-T11. -/
theorem test_pollCheck_too_early : tx? (exec (.pollCheck 0x1E7)
    { State.reset with lastPoll := 0xFFFFFE00 }) = some [] := by decide
/-- V-X11, V-RX13: reset clears the status and the partial frame. -/
theorem test_reset : (next? (exec .reset { full with status := 0b111, lastPoll := 9 })).map
    (fun t => (t.rxState, t.rxIdx, t.status, t.lastPoll)) = some (.idle, 0, 0, 0) := by decide
/-- V-X1: `IllegalOp` alone, and the block goes on. -/
theorem test_illegalOp : (next? (step (State.reset.withFetchWord 80 0x0A090000000100000002))).map
    (fun t => (t.status, t.out, t.out.rspErr)) =
    some (0b001, ⟨[], none, some 0, some .illegalOp⟩, 1) := by decide
/-- V-X8: `IllegalCam`; the zero is no zoom value. -/
theorem test_illegalCam : (next? (step (State.reset.withFetchWord 80 0x16070000000000000000))).map
    (fun t => (t.status, t.out, t.out.rspErr)) =
    some (0b010, ⟨[], none, some 0, some .illegalCam⟩, 2) := by decide
/-- R37, TESTCFG (R6): the reset values, the pan example of R21 too. -/
theorem test_reset_values : State.reset.cs = List.replicate 7 ⟨511, 511, 0, BitVec.ofInt 17 (-1)⟩ ∧
    panInit { Config.testCfg with panMax := 255 } = 127 ∧
    panInit { Config.testCfg with panMax := 800 } = 400 := by decide

/-! ## Witnesses: the hypotheses of each statement can be met, at the ends of their ranges -/

theorem witness_DecodeOfEncodeIsIdentity : Instr.wellFormed (.rxData 0x8F) = true ∧
    Instr.wellFormed (.rxData 0xFE) = true ∧ Instr.wellFormed (.blink 255 (-1) (-1)) = true := by decide
theorem witness_DecodedOperationReencodes :
    decode (.cmd 0x17FFFFFFFFFFFFFFFFFF) = .ok (.getFocus 255) ∧ decode .reset = .ok .reset :=
  ⟨rfl, rfl⟩
theorem witness_UnusedOperandFieldsHaveNoEffect :
    ((0x17 : Byte) ≠ 0x00 ∧ (0x17 : Byte) ≠ 0x07) ∧
    (0x17 : Byte) ∈ [(0x08 : Byte), 0x09, 0x14, 0x15, 0x16, 0x17] := by decide
theorem witness_StepRunsDecodedOperation : (offered [.reset]).shaped ∧
    (offered [.reset]).inbox = [.reset] ∧ decode .reset = .ok .reset := ⟨by decide, rfl, rfl⟩
theorem witness_UnassignedOpRaisesIllegalOp : (offered [.cmd 0x0A090000000100000002]).shaped ∧
    (reqOp 0x0A090000000100000002).toNat = 0x0A ∧ (reqOp 0x0F000000000000000000).toNat = 0x0F ∧
    (reqOp 0x18000000000000000000).toNat = 0x18 ∧ (reqOp 0xFF000000000000000000).toNat = 0xFF := by decide
theorem witness_StepWithoutEventIsQuiet : State.reset.shaped ∧ State.reset.inbox = [] := by decide
theorem witness_StepAnswersInEveryShapedState : State.reset.shaped ∧
    ¬ State.shaped { State.reset with cs := [] } := by decide
theorem witness_StepKeepsInvariant : ∃ t, { almostFull with inbox := [.rxByte 0x33] }.Inv ∧
    step { almostFull with inbox := [.rxByte 0x33] } = .next t := ⟨_, by decide, rfl⟩
theorem witness_ResetMeetsInvariant : smallest.legal ∧ Config.testCfg.legal := by decide
theorem witness_TransmitStreamIsConcatenationOfBursts :
    ∃ t, Sys2Proof.core.run 2 (offered [.cmd 0x01010000000100000000, .pollCheck 1000]) = .next t :=
  ⟨_, rfl⟩
theorem witness_OutputsNeverDependOnStaleBytes :
    ∃ t, (offered [.rxByte 0x90]).agreeUpToStale
        { offered [.rxByte 0x90] with rxbuf := List.replicate 17 0x90 } ∧
      step (offered [.rxByte 0x90]) = .next t := ⟨_, by decide, rfl⟩
theorem witness_OperationsLeaveParametersAndArrivals :
    ∃ t, exec .inquireAll State.reset = .next t := ⟨_, rfl⟩
theorem witness_OnlySettersAndResetWriteCameraState :
    ∃ t, writesCamera (.absMove 6) = false ∧ exec (.absMove 6) State.reset = .next t := ⟨_, rfl, rfl⟩
theorem witness_OnlyGettersAndAbsMoveReadCameraState :
    ∃ t, readsCamera (.relMove 6 1 2) = false ∧ writesCamera (.relMove 6 1 2) = false ∧
      exec (.relMove 6 1 2) State.reset = .next t := ⟨_, rfl, rfl, rfl⟩
theorem witness_OnlyGettersAndAbsMoveReadCameraState_setters : ∃ t u v w x,
    readsCamera (.setPan 6 9) = false ∧ (6 : Byte).toNat < State.reset.cfg.nCameras ∧
    exec (.setPan 6 9) State.reset = .next t ∧
    readsCamera (.setTilt 0 9) = false ∧ (0 : Byte).toNat < State.reset.cfg.nCameras ∧
    exec (.setTilt 0 9) State.reset = .next u ∧
    readsCamera (.setZoom 6 9) = false ∧ exec (.setZoom 6 9) State.reset = .next v ∧
    readsCamera (.setFocus 6 9) = false ∧ exec (.setFocus 6 9) State.reset = .next w ∧
    readsCamera .reset = false ∧ exec .reset State.reset = .next x :=
  ⟨_, _, _, _, _, rfl, by decide, rfl, rfl, by decide, rfl, rfl, rfl, rfl, rfl, rfl, rfl⟩
theorem witness_OnlyGettersAndAbsMoveReadCameraState_outOfRange :
    ∃ t, readsCamera (.setPan 7 9) = false ∧ cameraOf (.setPan 7 9) = some 7 ∧
      State.reset.cfg.nCameras ≤ (7 : Byte).toNat ∧ exec (.setPan 7 9) State.reset = .next t :=
  ⟨_, rfl, rfl, by decide, rfl⟩
theorem witness_OnlyReceivedBytesAndResetTouchAssembler :
    ∃ t, isRxByte (.pollCheck 1000) = false ∧ Instr.pollCheck 1000 ≠ .reset ∧
      exec (.pollCheck 1000) full = .next t := ⟨_, rfl, by decide, rfl⟩
theorem witness_ReceivedBytesTouchOnlyAssemblerAndOverflowBit :
    ∃ t, isRxByte .rxTerm = true ∧ exec .rxTerm full = .next t := ⟨_, rfl, rfl⟩
theorem witness_OnlyPollCheckAndResetWriteLastPoll :
    ∃ t, exec .inquireAll State.reset = .next t ∧ Instr.inquireAll ≠ .reset ∧
      ∀ now, Instr.inquireAll ≠ .pollCheck now := ⟨_, rfl, by decide, fun _ h => by cases h⟩
theorem witness_StatusBitsAreSticky :
    ∃ t, step { full with inbox := [.rxByte 0xFF], status := 0b011 } = .next t ∧
      t.status = 0b111 := ⟨_, rfl, by decide⟩
theorem witness_ErrorsChangeNothingElse_illegalOp :
    ∃ t, step (offered [.cmd 0xFF000000000000000000]) = .next t ∧ t.out.err = some .illegalOp :=
  ⟨_, rfl, rfl⟩
theorem witness_ErrorsChangeNothingElse_illegalCam :
    ∃ t, step (offered [.cmd 0x10070000000500000000]) = .next t ∧ t.out.err = some .illegalCam :=
  ⟨_, rfl, rfl⟩
theorem witness_ErrorsChangeNothingElse_rxOverflow :
    ∃ t, step { full with inbox := [.rxByte 0xFF] } = .next t ∧ t.out.err = some .rxOverflow :=
  ⟨_, rfl, rfl⟩
theorem witness_OutOfRangeCameraRaisesIllegalCam :
    cameraOf (.getFocus 7) = some 7 ∧ State.reset.cfg.nCameras ≤ (7 : Byte).toNat ∧
    cameraOf (.getFocus 255) = some 255 ∧ State.reset.cfg.nCameras ≤ (255 : Byte).toNat := by decide
theorem witness_BurstsAreWholeAddressedPackets :
    ∃ t, State.reset.cfg.legal ∧ exec (.blink 6 0xFE 0x1FE) State.reset = .next t ∧
      (0xFE : Word).toNat % 256 ≠ 0xFF ∧ (0x1FE : Word).toNat % 256 ≠ 0xFF :=
  ⟨_, by decide, rfl, by decide, by decide⟩
theorem witness_BurstLengthIsFixedPerOperation :
    ∃ t, exec (.absMove 6) State.reset = .next t ∧ t.out.err = none ∧
      ∀ now, Instr.absMove 6 ≠ .pollCheck now := ⟨_, rfl, rfl, fun _ h => by cases h⟩
theorem witness_SpeedIsRoundedAndSaturates : 99 ≤ (99 : Int).natAbs ∧ 99 ≤ (-100 : Int).natAbs ∧
    (-100 : Int).natAbs ≤ 100 ∧ (0 : Int).natAbs ≤ 100 := by decide
theorem witness_NibblesReassemble : (0 : Int) ≤ 0 ∧ (0 : Int) ≤ 65535 ∧ (65535 : Int) ≤ 65535 := by
  decide
theorem witness_DirectionFollowsSign : (0 : Int) < 1 ∧ (-1 : Int) < 0 ∧ (0 : Int) = 0 := by decide
/-- For every statement that splits on the camera index: the first and last camera there is, the first
and last index past them. -/
theorem witness_camera_range : (0 : Byte).toNat < State.reset.cfg.nCameras ∧
    (6 : Byte).toNat < State.reset.cfg.nCameras ∧ State.reset.cfg.nCameras ≤ (7 : Byte).toNat ∧
    State.reset.cfg.nCameras ≤ (255 : Byte).toNat := by decide
theorem witness_BlinkSendsOnePacket : (6 : Byte).toNat < State.reset.cfg.nCameras ∧
    State.reset.cfg.nCameras ≤ (7 : Byte).toNat := by decide
theorem witness_FlipSendsOnePacket : (6 : Byte).toNat < State.reset.cfg.nCameras ∧
    State.reset.cfg.nCameras ≤ (7 : Byte).toNat := by decide
theorem witness_MirrorSendsOnePacket : (6 : Byte).toNat < State.reset.cfg.nCameras ∧
    State.reset.cfg.nCameras ≤ (7 : Byte).toNat := by decide
theorem witness_BacklightSendsOnePacket : (6 : Byte).toNat < State.reset.cfg.nCameras ∧
    State.reset.cfg.nCameras ≤ (7 : Byte).toNat := by decide
theorem witness_MotionDetectSendsOnePacket : (6 : Byte).toNat < State.reset.cfg.nCameras ∧
    State.reset.cfg.nCameras ≤ (7 : Byte).toNat := by decide
theorem witness_WhiteBalanceSendsModeAndValue : (6 : Byte).toNat < State.reset.cfg.nCameras ∧
    State.reset.cfg.nCameras ≤ (7 : Byte).toNat := by decide
theorem witness_IrisSendsModeAndValue : (6 : Byte).toNat < State.reset.cfg.nCameras ∧
    State.reset.cfg.nCameras ≤ (7 : Byte).toNat := by decide
theorem witness_RelMoveSendsSpeedsAndDirections : (6 : Byte).toNat < State.reset.cfg.nCameras ∧
    State.reset.cfg.nCameras ≤ (7 : Byte).toNat := by decide
theorem witness_AbsMoveSendsTheCachedPosition : (6 : Byte).toNat < State.reset.cfg.nCameras ∧
    State.reset.cs[(6 : Byte).toNat]? = some ⟨511, 511, 0, BitVec.ofInt 17 (-1)⟩ ∧
    State.reset.cfg.nCameras ≤ (7 : Byte).toNat := by decide
theorem witness_SetPanStoresClampedValue : (6 : Byte).toNat < State.reset.cfg.nCameras ∧
    State.reset.cs[(6 : Byte).toNat]? = some ⟨511, 511, 0, BitVec.ofInt 17 (-1)⟩ ∧
    ((1023 : BitVec 16).toNat : Int) =
      max 0 (min (2147483647 : Word).toInt State.reset.cfg.panMax.toNat) ∧
    State.reset.cfg.nCameras ≤ (7 : Byte).toNat := by decide
theorem witness_SetTiltStoresClampedValue : (6 : Byte).toNat < State.reset.cfg.nCameras ∧
    State.reset.cs[(6 : Byte).toNat]? = some ⟨511, 511, 0, BitVec.ofInt 17 (-1)⟩ ∧
    ((0 : BitVec 16).toNat : Int) =
      max 0 (min (0x80000000 : Word).toInt State.reset.cfg.tiltMax.toNat) ∧
    State.reset.cfg.nCameras ≤ (7 : Byte).toNat := by decide
theorem witness_SetZoomStoresClampedValue : (0 : Byte).toNat < State.reset.cfg.nCameras ∧
    State.reset.cs[(0 : Byte).toNat]? = some ⟨511, 511, 0, BitVec.ofInt 17 (-1)⟩ ∧
    ((2305 : BitVec 16).toNat : Int) =
      max 0 (min (2305 : Word).toInt State.reset.cfg.zoomMax.toNat) ∧
    State.reset.cfg.nCameras ≤ (7 : Byte).toNat := by decide
theorem witness_SetFocusStoresClampedValue : (6 : Byte).toNat < State.reset.cfg.nCameras ∧
    State.reset.cs[(6 : Byte).toNat]? = some ⟨511, 511, 0, BitVec.ofInt 17 (-1)⟩ ∧
    (BitVec.ofInt 17 (-1)).toInt =
      max (-1) (min (-1 : Word).toInt State.reset.cfg.focusMax.toNat) ∧
    State.reset.cfg.nCameras ≤ (7 : Byte).toNat := by decide
theorem witness_GettersAnswerTheRegister : (6 : Byte).toNat < State.reset.cfg.nCameras ∧
    State.reset.cs[(6 : Byte).toNat]? = some ⟨511, 511, 0, BitVec.ofInt 17 (-1)⟩ ∧
    (511 : Word).toInt = (511 : BitVec 16).toNat ∧ (0 : Word).toInt = (0 : BitVec 16).toNat ∧
    (0xFFFFFFFF : Word).toInt = (BitVec.ofInt 17 (-1)).toInt := by decide
theorem witness_SettersThenGettersAnswerClamped : (6 : Byte).toNat < State.reset.cfg.nCameras ∧
    State.reset.cs[(6 : Byte).toNat]? = some ⟨511, 511, 0, BitVec.ofInt 17 (-1)⟩ := by decide
theorem witness_SetFocusSelectsModeOfNextAbsMove :
    ∃ t, State.reset.shaped ∧ (6 : Byte).toNat < State.reset.cfg.nCameras ∧
      exec (.setFocus 6 0) State.reset = .next t := ⟨_, by decide, by decide, rfl⟩
theorem witness_SettersAreIdempotent :
    ∃ t u, writesCamera (.setPan 6 77) = true ∧ State.reset.shaped ∧
      exec (.setPan 6 77) State.reset = .next t ∧ exec (.setPan 6 77) t = .next u :=
  ⟨_, _, rfl, by decide, rfl, rfl⟩
theorem witness_IdleDiscardsOtherBytes : State.reset.rxState = .idle ∧ (0x91 : Byte) ≠ 0x90 := by
  decide
theorem witness_DataByteIsAppended : almostFull.rxState = .receiving ∧
    almostFull.rxIdx < almostFull.cfg.rxCap ∧ isPayload 0x91 ∧ isPayload 0xFE := by decide
theorem witness_FullBufferOverflows : full.rxState = .receiving ∧ full.rxIdx = full.cfg.rxCap ∧
    (0xFF : Byte) ≠ 0x90 := by decide
theorem witness_TerminatorHandsOverTheFrame : almostFull.shaped ∧ almostFull.rxState = .receiving ∧
    almostFull.rxIdx < almostFull.cfg.rxCap := by decide
theorem witness_DeliveredFramesAreDelimited :
    ∃ t f, { almostFull with inbox := [.rxByte 0xFF] }.Inv ∧
      step { almostFull with inbox := [.rxByte 0xFF] } = .next t ∧ t.out.frame = some f :=
  ⟨_, _, by decide, rfl, rfl⟩
theorem witness_AssemblerRoundTrip :
    (offered ((0x90 :: List.replicate 15 0x41 ++ [0xFF]).map Event.rxByte ++ [.reset])).shaped ∧
    (offered ((0x90 :: List.replicate 15 0x41 ++ [0xFF]).map Event.rxByte ++ [.reset])).rxState = .idle ∧
    (∀ b ∈ List.replicate 15 (0x41 : Byte), isPayload b) ∧
    (List.replicate 15 (0x41 : Byte)).length + 2 ≤ State.reset.cfg.rxCap := by decide
theorem witness_AssemblerRoundTrip_empty_payload :
    State.shaped { State.resetWith smallest with inbox := [.rxByte 0x90, .rxByte 0xFF] } ∧
    (State.resetWith smallest).rxState = .idle ∧
    ([] : List Byte).length + 2 ≤ (State.resetWith smallest).cfg.rxCap := by decide
theorem witness_PollCheckFiresWhenIntervalElapsed :
    State.reset.cfg.pollIntervalMs ≤ ((1000 : Word).toNat + 2 ^ 32 - State.reset.lastPoll.toNat) % 2 ^ 32 ∧
    ((999 : Word).toNat + 2 ^ 32 - State.reset.lastPoll.toNat) % 2 ^ 32 <
      State.reset.cfg.pollIntervalMs := by decide
/-- V-T3 to V-T6, with a command between, and the second burst exactly one interval after the first. -/
theorem witness_PollBurstsAreAnIntervalApart :
    ∃ t u v, exec (.pollCheck 1000) State.reset = .next t ∧ t.out.tx ≠ [] ∧ UntriggeredRun t u ∧
      exec (.pollCheck 2000) u = .next v ∧ v.out.tx ≠ [] :=
  ⟨_, _, _, rfl, by decide,
    .operation (.pollCheck 1500) rfl (by decide) (fun _ _ => rfl)
      (.operation (.flip 1 1) rfl (by decide) (fun _ h => by cases h)
        (.operation (.pollCheck 1999) rfl (by decide) (fun _ _ => rfl) (.done _))),
    rfl, by decide⟩
theorem witness_ResetSetsEveryRegister :
    (511 : BitVec 16).toNat = full.cfg.panMax.toNat / 2 ∧
    (511 : BitVec 16).toNat = full.cfg.tiltMax.toNat / 2 ∧
    (BitVec.ofInt 17 (-1)).toInt = -1 := by decide

end Sys2Proof.Tests
end

section
/-! What one step runs: the first event offered, and the operation it decodes to
(spec/00_scope.md R7, spec/20_memory.md R60). -/

namespace Sys2Proof.Machine

theorem step_of_shaped {s : State} (hs : s.shaped) : step s = s.runNext :=
  if_pos hs

theorem State.runNext_of_cons {s : State} {e : Event} {rest : List Event}
    (hin : s.inbox = e :: rest) : s.runNext = { s with inbox := rest }.runEvent e := by
  simp only [State.runNext, hin]

theorem State.runEvent_of_ok {e : Event} {i : Instr} (hd : decode e = .ok i) (s : State) :
    s.runEvent e = exec i s := by
  simp only [State.runEvent, hd]

/-- Settles O8: a shaped state runs its first event, and an event that decodes runs its operation. -/
theorem stepRunsDecodedOperation : Obligations.StepRunsDecodedOperation := by
  intro s e rest i hs hin hd
  calc step s
      _ = s.runNext := step_of_shaped hs
      _ = { s with inbox := rest }.runEvent e := State.runNext_of_cons hin
      _ = exec i { s with inbox := rest } := State.runEvent_of_ok hd _

end Sys2Proof.Machine
end

section
/-! What one operation can do, said once: the form of every operation's meaning (`opForm`), and the
states one run of it can end in (`effect_of_exec`). -/

namespace Sys2Proof.Machine

/-- The outputs hand over no frame and report no error. -/
abbrev Outputs.plain (o : Outputs) : Prop := o.frame = none ∧ o.err = none

/-- The shared effect of the setters: the addressed camera's registers are changed by `f`
(spec/41_camera_state.md R110 to R113). -/
def State.updateCamera (s : State) (cam : Byte) (f : Camera → Camera) : State :=
  s.withCamera cam fun c => s.storeCamera c (f (s.camera c))

/-- Every register but `rxbuf` at its reset value (spec/10_state.md R37). -/
def State.cleared (s : State) : State :=
  { s with
    cs := List.replicate s.cfg.nCameras (Camera.atReset s.cfg)
    rxState := .idle
    rxIdx := 0
    status := 0
    lastPoll := 0 }

/-- The three packets of `ABS_MOVE` to camera index `c` with registers `k` (spec/44_motion_commands.md
R155). -/
def absMoveBurst (k : Camera) (c : Nat) : List Byte :=
  wrap [0x01, 0x04, 0x38, if k.focus.toInt = -1 then 0x02 else 0x03] c
    ++ wrap [0x01, 0x06, 0x01, 0x03, 0x03, 0x03, 0x03] c
    ++ wrap ([0x01, 0x06, 0x20] ++ toNibbles k.pan.toNat ++ toNibbles k.tilt.toNat
        ++ toNibbles k.zoom.toNat ++ toNibbles k.focus.toInt) c

theorem exec_absMove (cam : Byte) (s : State) :
    exec (.absMove cam) s =
      .next (s.withCamera cam fun c => s.sendBurst (absMoveBurst (s.camera c) c)) := rfl

theorem exec_reset (s : State) : exec .reset s = .next (s.cleared.finish .quiet) := rfl

theorem exec_setPan (cam : Byte) (a : Word) (s : State) :
    exec (.setPan cam a) s =
      .next (s.updateCamera cam fun k => { k with pan := clampPan s.cfg a }) := rfl

theorem exec_setTilt (cam : Byte) (a : Word) (s : State) :
    exec (.setTilt cam a) s =
      .next (s.updateCamera cam fun k => { k with tilt := clampTilt s.cfg a }) := rfl

theorem exec_setZoom (cam : Byte) (a : Word) (s : State) :
    exec (.setZoom cam a) s =
      .next (s.updateCamera cam fun k => { k with zoom := clampZoom s.cfg a }) := rfl

theorem exec_setFocus (cam : Byte) (a : Word) (s : State) :
    exec (.setFocus cam a) s =
      .next (s.updateCamera cam fun k => { k with focus := clampFocus s.cfg a }) := rfl

theorem exec_pollCheck_of_le {s : State} {now : Word} (h : s.cfg.pollIntervalMs ≤ s.elapsed now) :
    exec (.pollCheck now) s = .next ({ s with lastPoll := now }.finish
      { Outputs.quiet with tx := inquiryBurst s.cfg.nCameras }) := if_pos h

theorem exec_pollCheck_of_lt {s : State} {now : Word} (h : s.elapsed now < s.cfg.pollIntervalMs) :
    exec (.pollCheck now) s = .next (s.finish .quiet) := if_neg (Nat.not_le.mpr h)

/-! The clamped values of the setters lie in the registers' domains (spec/10_state.md R21 to R24). -/

theorem toNat_ofInt_clamp_le (v : Int) (hi : BitVec 16) :
    (BitVec.ofInt 16 (clamp v 0 hi.toNat)).toNat ≤ hi.toNat := by
  have hhi := hi.isLt
  rw [clamp_eq (by omega), BitVec.toNat_ofInt]
  omega

theorem clampFocus_toInt (c : Config) (a : Word) :
    (clampFocus c a).toInt = clamp a.toInt (-1) c.focusMax.toNat := by
  have hmax := c.focusMax.isLt
  rw [clampFocus, clamp_eq (by omega), BitVec.toInt_ofInt_eq_self (by decide)] <;> omega

theorem clampFocus_inDomain (c : Config) (a : Word) :
    -1 ≤ (clampFocus c a).toInt ∧ (clampFocus c a).toInt ≤ c.focusMax.toNat := by
  rw [clampFocus_toInt, clamp_eq (by omega)]
  omega

/-- The form of an operation's meaning, the same in every state. A form that reads
or writes a camera, or receives, names the class of operations (`readsCamera`, `writesCamera`, `isRxByte`)
it belongs to. -/
inductive OpForm (i : Instr) : Prop
  /-- A command to a camera, whose bytes come from its operands alone. -/
  | sends (cam : Byte) (burst : Nat → List Byte)
      (hexec : ∀ s, exec i s = .next (s.withCamera cam fun c => s.sendBurst (burst c)))
  /-- A getter or `ABS_MOVE`, whose outputs come from the addressed camera's registers. -/
  | reports (cam : Byte) (report : Camera → Nat → Outputs)
      (hreads : readsCamera i = true) (hplain : ∀ k c, (report k c).plain)
      (hexec : ∀ s, exec i s = .next (s.withCamera cam fun c => s.finish (report (s.camera c) c)))
  /-- A setter, which keeps the registers in their domains. -/
  | stores (cam : Byte) (update : Config → Camera → Camera)
      (hwrites : writesCamera i = true) (hcam : cameraOf i = some cam)
      (hdomain : ∀ c k, k.inDomain c → (update c k).inDomain c)
      (hexec : ∀ s, exec i s = .next (s.updateCamera cam (update s.cfg)))
  | inquires (heq : i = .inquireAll)
  | receives (b : Byte) (hrx : isRxByte i = true) (hexec : ∀ s, exec i s = .next (s.rxByte b))
  | polls (now : Word) (heq : i = .pollCheck now)
  | resets (heq : i = .reset)

theorem opForm (i : Instr) : OpForm i := by
  cases i with
  | blink cam led mode => exact .sends cam _ fun _ => rfl
  | flip cam t => exact .sends cam _ fun _ => rfl
  | mirror cam t => exact .sends cam _ fun _ => rfl
  | backlight cam t => exact .sends cam _ fun _ => rfl
  | motionDetect cam t => exact .sends cam _ fun _ => rfl
  | whiteBalance cam v => exact .sends cam _ fun _ => rfl
  | iris cam v => exact .sends cam _ fun _ => rfl
  | relMove cam dx dy => exact .sends cam _ fun _ => rfl
  | absMove cam =>
    exact .reports cam (fun k c => { Outputs.quiet with tx := absMoveBurst k c, rsp := some 0 }) rfl
      (fun _ _ => ⟨rfl, rfl⟩) (exec_absMove cam)
  | inquireAll => exact .inquires rfl
  | setPan cam v =>
    exact .stores cam (fun c k => { k with pan := clampPan c v }) rfl rfl
      (fun c k ⟨_, htilt, hzoom, hfocus⟩ => ⟨toNat_ofInt_clamp_le _ _, htilt, hzoom, hfocus⟩)
      (exec_setPan cam v)
  | setTilt cam v =>
    exact .stores cam (fun c k => { k with tilt := clampTilt c v }) rfl rfl
      (fun c k ⟨hpan, _, hzoom, hfocus⟩ => ⟨hpan, toNat_ofInt_clamp_le _ _, hzoom, hfocus⟩)
      (exec_setTilt cam v)
  | setZoom cam v =>
    exact .stores cam (fun c k => { k with zoom := clampZoom c v }) rfl rfl
      (fun c k ⟨hpan, htilt, _, hfocus⟩ => ⟨hpan, htilt, toNat_ofInt_clamp_le _ _, hfocus⟩)
      (exec_setZoom cam v)
  | setFocus cam v =>
    exact .stores cam (fun c k => { k with focus := clampFocus c v }) rfl rfl
      (fun c k ⟨hpan, htilt, hzoom, _⟩ => ⟨hpan, htilt, hzoom, clampFocus_inDomain c v⟩)
      (exec_setFocus cam v)
  | getPan cam =>
    exact .reports cam (fun k _ => { Outputs.quiet with rsp := some (k.pan.setWidth 32) }) rfl
      (fun _ _ => ⟨rfl, rfl⟩) fun _ => rfl
  | getTilt cam =>
    exact .reports cam (fun k _ => { Outputs.quiet with rsp := some (k.tilt.setWidth 32) }) rfl
      (fun _ _ => ⟨rfl, rfl⟩) fun _ => rfl
  | getZoom cam =>
    exact .reports cam (fun k _ => { Outputs.quiet with rsp := some (k.zoom.setWidth 32) }) rfl
      (fun _ _ => ⟨rfl, rfl⟩) fun _ => rfl
  | getFocus cam =>
    exact .reports cam (fun k _ => { Outputs.quiet with rsp := some (k.focus.signExtend 32) }) rfl
      (fun _ _ => ⟨rfl, rfl⟩) fun _ => rfl
  | rxStart => exact .receives startByte rfl fun _ => rfl
  | rxTerm => exact .receives termByte rfl fun _ => rfl
  | rxData b => exact .receives b rfl fun _ => rfl
  | pollCheck now => exact .polls now rfl
  | reset => exact .resets rfl

/-- What one run of an operation from `s` can end in. -/
inductive Effect (s : State) : Instr → State → Prop
  /-- Outputs and no register. -/
  | outputs {i : Instr} (o : Outputs) (hplain : o.plain) : Effect s i (s.finish o)
  /-- The camera does not exist (spec/60_exceptions.md R192). -/
  | illegalCam {i : Instr} : Effect s i (s.raiseError .illegalCam)
  /-- A setter writes the addressed camera. -/
  | store {i : Instr} (cam : Byte) (f : Camera → Camera) (hwrites : writesCamera i = true)
      (hcam : cameraOf i = some cam) (hlt : cam.toNat < s.cfg.nCameras)
      (hdomain : ∀ k, k.inDomain s.cfg → (f k).inDomain s.cfg) :
      Effect s i (s.storeCamera cam.toNat (f (s.camera cam.toNat)))
  | receive {i : Instr} (b : Byte) (hrx : isRxByte i = true) : Effect s i (s.rxByte b)
  /-- A poll check that fires (spec/60_exceptions.md R206). -/
  | poll (now : Word) : Effect s (.pollCheck now) ({ s with lastPoll := now }.finish
      { Outputs.quiet with tx := inquiryBurst s.cfg.nCameras })
  | reset : Effect s .reset (s.cleared.finish .quiet)

/-- The camera check, then the effect on a camera that exists. -/
theorem Effect.withCamera {i : Instr} {s : State} {cam : Byte} {effect : Nat → State}
    (h : cam.toNat < s.cfg.nCameras → Effect s i (effect cam.toNat)) :
    Effect s i (s.withCamera cam effect) := by
  rcases s.withCamera_cases cam effect with ⟨hlt, heq⟩ | ⟨_, heq⟩
  · exact heq ▸ h hlt
  · exact heq ▸ .illegalCam

theorem effect_of_exec {i : Instr} {s t : State} (h : exec i s = .next t) : Effect s i t := by
  cases opForm i with
  | sends cam burst hexec =>
    cases (hexec s).symm.trans h
    exact .withCamera fun _ => .outputs _ ⟨rfl, rfl⟩
  | reports cam report _ hplain hexec =>
    cases (hexec s).symm.trans h
    exact .withCamera fun _ => .outputs _ (hplain _ _)
  | stores cam update hwrites hcam hdomain hexec =>
    cases (hexec s).symm.trans h
    exact .withCamera fun hlt => .store cam _ hwrites hcam hlt (hdomain s.cfg)
  | inquires heq =>
    subst heq
    cases h
    exact .outputs _ ⟨rfl, rfl⟩
  | receives b hrx hexec =>
    cases (hexec s).symm.trans h
    exact .receive b hrx
  | polls now heq =>
    subst heq
    rcases execPollCheck_cases now s with ⟨_, hexec⟩ | ⟨_, hexec⟩ <;> cases hexec.symm.trans h
    · exact .poll now
    · exact .outputs _ ⟨rfl, rfl⟩
  | resets heq =>
    subst heq
    cases h
    exact .reset

end Sys2Proof.Machine
end

section
/-! What an operation leaves unchanged (spec/10_state.md R20 to R32). -/

namespace Sys2Proof.Machine

/-- The status bit an event's outputs report, 0 where they report no error (spec/10_state.md R30). -/
def Outputs.raised (o : Outputs) : BitVec 3 := o.err.elim 0 BlockError.statusBit

theorem Outputs.raised_of_plain {o : Outputs} (h : o.plain) : o.raised = 0 := by
  simp [Outputs.raised, h.2]

/-- Each bit of `raised` is its error's. -/
theorem Outputs.raised_getLsbD (o : Outputs) :
    o.raised.getLsbD 0 = decide (o.err = some .illegalOp) ∧
    o.raised.getLsbD 1 = decide (o.err = some .illegalCam) ∧
    o.raised.getLsbD 2 = decide (o.err = some .rxOverflow) := by
  unfold Outputs.raised
  rcases o.err with _ | _ | _ | _ <;> decide

/-- What a received byte leaves unchanged, in either state (spec/46_frame_assembler.md R170, R179). -/
theorem State.rxByte_frame (s : State) (b : Byte) :
    (s.rxByte b).cfg = s.cfg ∧ (s.rxByte b).cs = s.cs ∧ (s.rxByte b).lastPoll = s.lastPoll ∧
    (s.rxByte b).inbox = s.inbox ∧ (s.rxByte b).txSink = s.txSink ++ (s.rxByte b).out.tx ∧
    (s.rxByte b).rxbuf.length = s.rxbuf.length ∧
    (s.rxByte b).status = s.status ||| (s.rxByte b).out.raised := by
  rcases s.rxByte_cases b with ⟨_, h⟩ | ⟨_, _, h⟩ | ⟨_, _, _, h⟩ | ⟨_, _, _, h⟩ | ⟨_, _, _, h⟩ <;>
    simp [h, Outputs.raised]

/-- Settles O16: every effect ends by `finish` and writes neither parameters nor arrivals. -/
theorem operationsLeaveParametersAndArrivals : Obligations.OperationsLeaveParametersAndArrivals := by
  intro i s t h
  cases effect_of_exec h with
  | outputs o _ => exact ⟨rfl, rfl, rfl⟩
  | illegalCam => simp
  | store cam f => simp
  | receive b _ =>
    obtain ⟨hcfg, _, _, hinbox, htx, _, _⟩ := s.rxByte_frame b
    exact ⟨hcfg, hinbox, htx⟩
  | poll now => exact ⟨rfl, rfl, rfl⟩
  | reset => exact ⟨rfl, rfl, rfl⟩

/-- Settles O17: of the effects only a store and a reset write the register file. -/
theorem onlySettersAndResetWriteCameraState : Obligations.OnlySettersAndResetWriteCameraState := by
  intro i s t hw h
  cases effect_of_exec h with
  | outputs o _ => rfl
  | illegalCam => rfl
  | store cam f hwrites => exact absurd hwrites (by simp [hw])
  | receive b _ =>
    obtain ⟨_, hcs, _⟩ := s.rxByte_frame b
    exact hcs
  | poll now => rfl
  | reset => cases hw

/-- Settles O19: of the effects only a received byte and a reset write the assembler, and only a received
byte can report a frame. -/
theorem onlyReceivedBytesAndResetTouchAssembler :
    Obligations.OnlyReceivedBytesAndResetTouchAssembler := by
  intro i s t hrx h
  cases effect_of_exec h with
  | outputs o hplain => exact ⟨hplain.1, rfl, fun _ => ⟨rfl, rfl⟩⟩
  | illegalCam => exact ⟨rfl, rfl, fun _ => ⟨rfl, rfl⟩⟩
  | store cam f => exact ⟨rfl, rfl, fun _ => ⟨rfl, rfl⟩⟩
  | receive b hrx' => exact absurd hrx' (by simp [hrx])
  | poll now => exact ⟨rfl, rfl, fun _ => ⟨rfl, rfl⟩⟩
  | reset => exact ⟨rfl, rfl, fun hne => absurd rfl hne⟩

/-- Settles O21: of the effects only a poll that fires and a reset write the poll time. -/
theorem onlyPollCheckAndResetWriteLastPoll : Obligations.OnlyPollCheckAndResetWriteLastPoll := by
  intro i s t h hreset hpoll
  cases effect_of_exec h with
  | outputs o _ => rfl
  | illegalCam => rfl
  | store cam f => rfl
  | receive b _ =>
    obtain ⟨_, _, hlastPoll, _⟩ := s.rxByte_frame b
    exact hlastPoll
  | poll now => exact absurd rfl (hpoll now)
  | reset => exact absurd rfl hreset

/-- Every operation but `RESET` adds to `status` exactly the bit of the error it reports. -/
theorem exec_status {i : Instr} {s t : State} (h : exec i s = .next t) (hreset : i ≠ .reset) :
    t.status = s.status ||| t.out.raised := by
  cases effect_of_exec h with
  | outputs o hplain => simp [Outputs.raised_of_plain hplain]
  | illegalCam => rfl
  | store cam f => simp [Outputs.raised]
  | receive b _ =>
    obtain ⟨_, _, _, _, _, _, hstatus⟩ := s.rxByte_frame b
    exact hstatus
  | poll now => simp [Outputs.raised]
  | reset => exact absurd rfl hreset

theorem decodeRequest_ne_reset (w : BitVec 80) : decodeRequest w ≠ .ok .reset := by
  unfold decodeRequest
  split <;> nofun

theorem decodeRxByte_ne_reset (b : Byte) : decodeRxByte b ≠ .reset := by
  unfold decodeRxByte
  split
  · nofun
  · split <;> nofun

/-- Only the reset input is read as `RESET` (spec/30_encoding.md R72). -/
theorem eq_reset_of_decode {e : Event} (h : decode e = .ok .reset) : e = .reset := by
  cases e with
  | cmd w => exact absurd h (decodeRequest_ne_reset w)
  | rxByte b => exact absurd (Except.ok.inj h) (decodeRxByte_ne_reset b)
  | pollCheck now => cases h
  | reset => rfl

/-- Every event but the reset input adds to `status` exactly the bit of the error it reports. -/
theorem step_status {s t : State} {e : Event} {rest : List Event} (hin : s.inbox = e :: rest)
    (hreset : e ≠ .reset) (h : step s = .next t) : t.status = s.status ||| t.out.raised := by
  obtain ⟨_, ⟨hnil, _⟩ | ⟨e', rest', i, hin', hdecode, hexec⟩ | ⟨_, _, _, _, _, ht⟩⟩ := step_cases h
  · exact absurd (hnil.symm.trans hin) (by simp)
  · obtain ⟨rfl, rfl⟩ := List.cons.inj (hin.symm.trans hin')
    have hi : i ≠ .reset := fun hi => hreset (eq_reset_of_decode (hi ▸ hdecode))
    exact exec_status (s := { s with inbox := rest }) hexec hi
  · rw [ht]
    rfl

/-- Settles O22: `status` is or-ed with the bit of the reported error, read at each position. -/
theorem statusBitsAreSticky : Obligations.StatusBitsAreSticky := by
  intro s t e rest hin hreset h
  obtain ⟨hop, hcam, hovf⟩ := t.out.raised_getLsbD
  simp only [step_status hin hreset h, BitVec.getLsbD_or, hop, hcam, hovf, and_self]

end Sys2Proof.Machine
end

section
/-! The block's invariant (spec/10_state.md R20 to R28): it holds after reset, and every step keeps each
of its three parts. -/

namespace Sys2Proof.Machine

/-! The reset values (spec/10_state.md R21 to R24, R37). -/

theorem panInit_toNat (c : Config) : (panInit c).toNat = c.panMax.toNat / 2 :=
  BitVec.toNat_udiv

theorem tiltInit_toNat (c : Config) : (tiltInit c).toNat = c.tiltMax.toNat / 2 :=
  BitVec.toNat_udiv

theorem focusInit_toInt (c : Config) : (focusInit c).toInt = -1 := by
  unfold focusInit
  decide

theorem Camera.atReset_inDomain (c : Config) : (Camera.atReset c).inDomain c := by
  refine ⟨?_, ?_, Nat.zero_le _, (focusInit_toInt c).ge, ?_⟩
  · exact (panInit_toNat c).trans_le (Nat.div_le_self _ _)
  · exact (tiltInit_toNat c).trans_le (Nat.div_le_self _ _)
  · exact (focusInit_toInt c).trans_le (by omega)

/-- Settles O59, from the reset values of one camera. -/
theorem resetStateHasTheStatedValues : Obligations.ResetStateHasTheStatedValues := by
  intro c
  refine ⟨List.length_replicate, fun k hk => ?_, rfl, rfl, rfl, rfl⟩
  rw [List.eq_of_mem_replicate hk]
  exact ⟨panInit_toNat c, tiltInit_toNat c, rfl, focusInit_toInt c⟩

theorem State.resetWith_inv {c : Config} (h : c.legal) : (State.resetWith c).Inv := by
  refine ⟨⟨h, List.length_replicate, List.length_replicate⟩, fun k hk => ?_, fun _ => rfl, nofun⟩
  rw [List.eq_of_mem_replicate hk]
  exact Camera.atReset_inDomain c

/-- Settles O13: the reset values are in their domains, and `TESTCFG` is legal. -/
theorem resetMeetsInvariant : Obligations.ResetMeetsInvariant :=
  ⟨fun _ h => State.resetWith_inv h, State.resetWith_inv (by decide)⟩

/-! The step. -/

/-- An operation leaves the parameters and the lengths of the two files. -/
theorem exec_shaped {i : Instr} {s t : State} (h : exec i s = .next t) (hs : s.shaped) :
    t.shaped := by
  obtain ⟨hlegal, hcs, hbuf⟩ := hs
  cases effect_of_exec h with
  | outputs o _ => exact ⟨hlegal, hcs, hbuf⟩
  | illegalCam => exact ⟨hlegal, hcs, hbuf⟩
  | store cam f => exact ⟨hlegal, by simpa using hcs, hbuf⟩
  | receive b _ =>
    obtain ⟨hcfg', hcs', _, _, _, hbuf', _⟩ := s.rxByte_frame b
    simp only [State.shaped, hcfg', hcs', hbuf']
    exact ⟨hlegal, hcs, hbuf⟩
  | poll now => exact ⟨hlegal, hcs, hbuf⟩
  | reset => exact ⟨hlegal, List.length_replicate, hbuf⟩

/-- Every camera of the register file is in its domain (spec/10_state.md R21 to R24). -/
abbrev State.camerasInDomain (s : State) : Prop := ∀ k ∈ s.cs, k.inDomain s.cfg

/-- A camera of the file, and the reset value read outside it, are in the domain. -/
theorem State.camera_inDomain {s : State} (h : s.camerasInDomain) (c : Nat) :
    (s.camera c).inDomain s.cfg := by
  cases hc : s.cs[c]? with
  | some k => exact State.camera_of_getElem? hc ▸ h k (List.mem_of_getElem? hc)
  | none =>
    have hdefault : s.camera c = Camera.atReset s.cfg := by simp [State.camera, hc]
    exact hdefault ▸ Camera.atReset_inDomain s.cfg

theorem exec_camerasInDomain {i : Instr} {s t : State} (h : exec i s = .next t)
    (hs : s.camerasInDomain) : t.camerasInDomain := by
  cases effect_of_exec h with
  | outputs o _ => exact hs
  | illegalCam => exact hs
  | store cam f _ _ _ hdomain =>
    intro k hk
    rcases List.mem_or_eq_of_mem_set hk with hmem | rfl
    · exact hs k hmem
    · exact hdomain _ (State.camera_inDomain hs _)
  | receive b _ =>
    obtain ⟨hcfg', hcs', _⟩ := s.rxByte_frame b
    simpa only [State.camerasInDomain, hcfg', hcs'] using hs
  | poll now => exact hs
  | reset =>
    intro k hk
    exact List.eq_of_mem_replicate hk ▸ Camera.atReset_inDomain s.cfg

/-- A start marker leaves a partial frame of that byte alone (spec/46_frame_assembler.md R172, R174). -/
theorem State.startFrame_assemblerOk {s : State} (hs : s.shaped) : s.startFrame.assemblerOk := by
  obtain ⟨⟨_, _, hcap⟩, _, hbuf⟩ := hs
  refine ⟨nofun, fun _ => ⟨le_rfl, by simp; omega, ?_, by simp⟩⟩
  exact List.getElem?_set_self (by omega)

/-- A payload byte that fits extends the partial frame by that byte (spec/46_frame_assembler.md R175). -/
theorem State.appendByte_assemblerOk {s : State} {b : Byte} (hs : s.shaped) (ha : s.assemblerOk)
    (hb : isPayload b) (hrx : s.rxState = .receiving) (hfull : s.rxIdx ≠ s.cfg.rxCap) :
    (s.appendByte b).assemblerOk := by
  obtain ⟨_, _, hbuf⟩ := hs
  obtain ⟨hidx, hle, hstart, hpayload⟩ := ha.2 hrx
  refine ⟨fun hidle => by simp [hrx] at hidle, fun _ => ⟨by simp, ?_, ?_, ?_⟩⟩
  · simp only [State.appendByte_rxIdx, State.appendByte_cfg]
    omega
  · rw [State.appendByte_rxbuf, List.getElem?_set_ne (by omega)]
    exact hstart
  · have hlt : s.rxIdx < s.rxbuf.length := by omega
    have hdrop : ((s.appendByte b).rxbuf.take (s.appendByte b).rxIdx).drop 1 =
        (s.rxbuf.take s.rxIdx).drop 1 ++ [b] := by
      rw [State.appendByte_rxbuf, State.appendByte_rxIdx, take_succ_set hlt,
        List.drop_append_of_le_length (by rw [List.length_take]; omega)]
    rw [hdrop]
    intro x hx
    rcases List.mem_append.mp hx with hmem | hmem
    · exact hpayload x hmem
    · exact List.mem_singleton.mp hmem ▸ hb

theorem State.rxByte_assemblerOk {s : State} (b : Byte) (hs : s.shaped) (ha : s.assemblerOk) :
    (s.rxByte b).assemblerOk := by
  rcases s.rxByte_cases b with ⟨_, h⟩ | ⟨_, _, h⟩ | ⟨_, _, _, h⟩ | ⟨_, _, _, h⟩ |
    ⟨hb, hrx, hfull, h⟩ <;> rw [h]
  · exact State.startFrame_assemblerOk hs
  · exact ha
  · exact ⟨fun _ => rfl, nofun⟩
  · exact ⟨fun _ => rfl, nofun⟩
  · exact State.appendByte_assemblerOk hs ha hb hrx hfull

theorem exec_assemblerOk {i : Instr} {s t : State} (h : exec i s = .next t) (hs : s.shaped)
    (ha : s.assemblerOk) : t.assemblerOk := by
  cases effect_of_exec h with
  | outputs o _ => exact ha
  | illegalCam => exact ha
  | store cam f => exact ha
  | receive b _ => exact State.rxByte_assemblerOk b hs ha
  | poll now => exact ha
  | reset => exact ⟨fun _ => rfl, nofun⟩

theorem exec_inv {i : Instr} {s t : State} (h : exec i s = .next t) (hs : s.Inv) : t.Inv := by
  obtain ⟨hshaped, hcameras, hassembler⟩ := hs
  exact ⟨exec_shaped h hshaped, exec_camerasInDomain h hcameras,
    exec_assemblerOk h hshaped hassembler⟩

/-- Settles O12: a step runs an operation, which keeps each part of the invariant, or writes no register
the invariant speaks of. -/
theorem stepKeepsInvariant : Obligations.StepKeepsInvariant := by
  intro s t hs h
  obtain ⟨_, ⟨_, rfl⟩ | ⟨_, rest, _, _, _, hexec⟩ | ⟨_, _, _, _, _, rfl⟩⟩ := step_cases h
  · exact hs
  · exact exec_inv (s := { s with inbox := rest }) hexec hs
  · exact hs

end Sys2Proof.Machine
end

section
/-! No output depends on a receive buffer byte at index `rx_idx` or above (spec/10_state.md R29): two
runs from states that agree up to those bytes stay in step. -/

namespace Sys2Proof.Machine

theorem step_of_nil {s : State} (hs : s.shaped) (hin : s.inbox = []) : step s = .next s.idle := by
  rw [step_of_shaped hs]
  simp only [State.runNext, hin]

theorem step_of_unassigned {s : State} {e : Event} {rest : List Event} {op : Byte} (hs : s.shaped)
    (hin : s.inbox = e :: rest) (hd : decode e = .error (.illegalOp op)) :
    step s = .next ({ s with inbox := rest }.raiseError .illegalOp) := by
  rw [step_of_shaped hs, State.runNext_of_cons hin]
  simp only [State.runEvent, hd]

/-! The rows of the FrameAssembler's table (spec/46_frame_assembler.md R179), each by its condition. -/

theorem State.rxByte_start (s : State) : s.rxByte startByte = s.startFrame.finish .quiet := if_pos rfl

theorem State.rxByte_of_idle {s : State} {b : Byte} (hb : b ≠ startByte) (hrx : s.rxState = .idle) :
    s.rxByte b = s.finish .quiet := by
  simp only [State.rxByte, if_neg hb, hrx]

theorem State.rxByte_of_full {s : State} {b : Byte} (hb : b ≠ startByte)
    (hrx : s.rxState = .receiving) (hfull : s.rxIdx = s.cfg.rxCap) :
    s.rxByte b = s.toIdle.raiseError .rxOverflow := by
  simp only [State.rxByte, if_neg hb, hrx, if_pos hfull]

theorem State.rxByte_term {s : State} (hrx : s.rxState = .receiving) (hfull : s.rxIdx ≠ s.cfg.rxCap) :
    s.rxByte termByte = (s.appendByte termByte).completeFrame := by
  have hb : termByte ≠ startByte := by decide
  simp only [State.rxByte, if_neg hb, hrx, if_neg hfull, if_true]

theorem State.rxByte_payload {s : State} {b : Byte} (hb : isPayload b) (hrx : s.rxState = .receiving)
    (hfull : s.rxIdx ≠ s.cfg.rxCap) : s.rxByte b = (s.appendByte b).finish .quiet := by
  obtain ⟨hstart, hterm⟩ := hb
  simp only [State.rxByte, if_neg hstart, hrx, if_neg hfull, if_neg hterm]

/-! Agreement up to stale bytes. -/

theorem State.agreeUpToStale_iff {s t : State} : s.agreeUpToStale t ↔
    ∃ r, t = { s with rxbuf := r } ∧ r.length = s.rxbuf.length ∧
      r.take s.rxIdx = s.rxbuf.take s.rxIdx := by
  constructor
  · rintro ⟨heq, hlen, htake⟩
    exact ⟨t.rxbuf, heq, hlen, htake⟩
  · rintro ⟨r, rfl, hlen, htake⟩
    exact ⟨rfl, hlen, htake⟩

theorem State.agreeUpToStale_out {s t : State} (h : s.agreeUpToStale t) : t.out = s.out := by
  obtain ⟨r, rfl, _⟩ := State.agreeUpToStale_iff.mp h
  rfl

/-- Writing index `n` of two files of one length that agree below it makes them agree through it. -/
theorem take_succ_set_congr {l r : List Byte} {n : Nat} (hlen : r.length = l.length)
    (htake : r.take n = l.take n) (b : Byte) :
    (r.set n b).take (n + 1) = (l.set n b).take (n + 1) := by
  simp only [List.take_add_one, take_set_same, htake, List.getElem?_set, if_true, hlen]

/-- A relation between the two effects, and between the two errors, is one between two runs of a camera
operation that make the same camera check. -/
theorem State.withCamera_rel {R : State → State → Prop} {s t : State} {cam : Byte}
    {effect effect' : Nat → State} (hcfg : t.cfg = s.cfg)
    (heffect : R (effect cam.toNat) (effect' cam.toNat))
    (herror : R (s.raiseError .illegalCam) (t.raiseError .illegalCam)) :
    R (s.withCamera cam effect) (t.withCamera cam effect') := by
  rcases s.withCamera_cases cam effect with ⟨hlt, heq⟩ | ⟨hle, heq⟩ <;> rw [heq]
  · rwa [State.withCamera_of_lt (hcfg ▸ hlt)]
  · rwa [State.withCamera_of_le (hcfg ▸ hle)]

/-- Two states in one row of the FrameAssembler's table run the same row; a relation that holds row by row
holds of the two runs. -/
theorem State.rxByte_rel {R : State → State → Prop} {s t : State} {b : Byte} (hcfg : t.cfg = s.cfg)
    (hstate : t.rxState = s.rxState) (hidx : t.rxIdx = s.rxIdx)
    (hstart : R (s.startFrame.finish .quiet) (t.startFrame.finish .quiet))
    (hidle : R (s.finish .quiet) (t.finish .quiet))
    (hfull : R (s.toIdle.raiseError .rxOverflow) (t.toIdle.raiseError .rxOverflow))
    (hterm : R (s.appendByte termByte).completeFrame (t.appendByte termByte).completeFrame)
    (hdata : R ((s.appendByte b).finish .quiet) ((t.appendByte b).finish .quiet)) :
    R (s.rxByte b) (t.rxByte b) := by
  rcases s.rxByte_cases b with ⟨rfl, heq⟩ | ⟨hb, hrx, heq⟩ | ⟨hb, hrx, hcap, heq⟩ |
    ⟨rfl, hrx, hcap, heq⟩ | ⟨hb, hrx, hcap, heq⟩ <;> rw [heq]
  · rwa [State.rxByte_start]
  · rwa [State.rxByte_of_idle hb (hstate.trans hrx)]
  · rwa [State.rxByte_of_full hb (hstate.trans hrx) (by rw [hidx, hcfg, hcap])]
  · rwa [State.rxByte_term (hstate.trans hrx) (by rwa [hidx, hcfg])]
  · rwa [State.rxByte_payload hb (hstate.trans hrx) (by rwa [hidx, hcfg])]

/-- The frame handed over holds no byte at index `rx_idx` or above. -/
theorem State.frameOf_congr {s : State} {r : List Byte} (h : r.take s.rxIdx = s.rxbuf.take s.rxIdx) :
    { s with rxbuf := r }.frameOf = s.frameOf := by
  simp only [State.frameOf, h]

/-- A complete frame of two states that agree is one frame. -/
theorem State.completeFrame_agree {s t : State} (h : s.agreeUpToStale t) :
    s.completeFrame.agreeUpToStale t.completeFrame := by
  obtain ⟨r, rfl, hlen, htake⟩ := State.agreeUpToStale_iff.mp h
  refine State.agreeUpToStale_iff.mpr ⟨r, ?_, hlen, rfl⟩
  simp only [State.completeFrame, State.frameOf_congr htake]
  rfl

theorem State.appendByte_agree {s t : State} (h : s.agreeUpToStale t) (b : Byte) :
    (s.appendByte b).agreeUpToStale (t.appendByte b) := by
  obtain ⟨r, rfl, hlen, htake⟩ := State.agreeUpToStale_iff.mp h
  exact ⟨rfl, by simpa using hlen, take_succ_set_congr hlen htake b⟩

theorem State.rxByte_agree {s t : State} (h : s.agreeUpToStale t) (b : Byte) :
    (s.rxByte b).agreeUpToStale (t.rxByte b) := by
  obtain ⟨r, rfl, hlen, htake⟩ := State.agreeUpToStale_iff.mp h
  refine State.rxByte_rel rfl rfl rfl ?hstart ?hidle ?hfull ?hterm ?hdata
  case hstart => exact ⟨rfl, by simpa using hlen, take_succ_set_congr hlen rfl startByte⟩
  case hidle => exact ⟨rfl, hlen, htake⟩
  case hfull => exact ⟨rfl, hlen, rfl⟩
  case hterm => exact State.completeFrame_agree (State.appendByte_agree h termByte)
  case hdata =>
    obtain ⟨_, hlen', htake'⟩ := State.appendByte_agree h b
    exact ⟨rfl, hlen', htake'⟩

/-- An operation run from two states that agree ends in two that agree. -/
theorem exec_agree (i : Instr) {s t : State} (h : s.agreeUpToStale t) :
    ∃ s' t', exec i s = .next s' ∧ exec i t = .next t' ∧ s'.agreeUpToStale t' := by
  obtain ⟨r, rfl, hlen, htake⟩ := State.agreeUpToStale_iff.mp h
  cases opForm i with
  | sends cam burst hexec =>
    exact ⟨_, _, hexec _, hexec _,
      State.withCamera_rel rfl ⟨rfl, hlen, htake⟩ ⟨rfl, hlen, htake⟩⟩
  | reports cam report _ _ hexec =>
    exact ⟨_, _, hexec _, hexec _,
      State.withCamera_rel rfl ⟨rfl, hlen, htake⟩ ⟨rfl, hlen, htake⟩⟩
  | stores cam update _ _ _ hexec =>
    exact ⟨_, _, hexec _, hexec _,
      State.withCamera_rel rfl ⟨rfl, hlen, htake⟩ ⟨rfl, hlen, htake⟩⟩
  | inquires heq =>
    subst heq
    exact ⟨_, _, rfl, rfl, rfl, hlen, htake⟩
  | receives b _ hexec => exact ⟨_, _, hexec _, hexec _, State.rxByte_agree h b⟩
  | polls now heq =>
    subst heq
    by_cases hfire : s.cfg.pollIntervalMs ≤ s.elapsed now
    · exact ⟨_, _, exec_pollCheck_of_le hfire, exec_pollCheck_of_le hfire, rfl, hlen, htake⟩
    · have hlt := Nat.lt_of_not_le hfire
      exact ⟨_, _, exec_pollCheck_of_lt hlt, exec_pollCheck_of_lt hlt, rfl, hlen, htake⟩
  | resets heq =>
    subst heq
    exact ⟨_, _, rfl, rfl, rfl, hlen, rfl⟩

theorem step_agree {s t s' : State} (h : s.agreeUpToStale t) (hstep : step s = .next s') :
    ∃ t', step t = .next t' ∧ s'.agreeUpToStale t' := by
  obtain ⟨r, rfl, hlen, htake⟩ := State.agreeUpToStale_iff.mp h
  obtain ⟨⟨hlegal, hcs, hbuf⟩, hcases⟩ := step_cases hstep
  have hs : State.shaped { s with rxbuf := r } := ⟨hlegal, hcs, hlen.trans hbuf⟩
  rcases hcases with ⟨hin, rfl⟩ | ⟨e, rest, i, hin, hd, hexec⟩ | ⟨e, rest, op, hin, hd, rfl⟩
  · exact ⟨_, step_of_nil hs hin, rfl, hlen, htake⟩
  · obtain ⟨u, t', hu, ht', hagree⟩ :=
      exec_agree i (s := { s with inbox := rest }) (t := { s with inbox := rest, rxbuf := r })
        ⟨rfl, hlen, htake⟩
    cases hu.symm.trans hexec
    exact ⟨t', (stepRunsDecodedOperation _ e rest i hs hin hd).trans ht', hagree⟩
  · exact ⟨_, step_of_unassigned hs hin hd, rfl, hlen, htake⟩

/-- Settles O15: the states agree again, and the outputs lie outside the buffer. -/
theorem outputsNeverDependOnStaleBytes : Obligations.OutputsNeverDependOnStaleBytes := by
  intro s t s' h hstep
  obtain ⟨t', ht', hagree⟩ := step_agree h hstep
  exact ⟨t', ht', hagree, State.agreeUpToStale_out hagree⟩

end Sys2Proof.Machine
end

section
/-! Which operations read a CameraState register (spec/10_state.md R20): two runs that differ only in the
register file stay in step outside it, unless the operation is a getter or `ABS_MOVE`. -/

namespace Sys2Proof.Machine

/-- The two states differ at most in the register file. -/
def State.agreeOutsideFile (s t : State) : Prop := ∃ cs, t = { s with cs := cs }

theorem State.updateCamera_cs {s : State} {cam : Byte} (h : cam.toNat < s.cfg.nCameras)
    (f : Camera → Camera) : (s.updateCamera cam f).cs = s.cs.modify cam.toNat f := by
  rw [State.updateCamera, State.withCamera_of_lt h, State.storeCamera_cs, State.set_camera_eq_modify]

/-- What a setter writes, from its equation. -/
theorem cs_of_exec_eq_updateCamera {i : Instr} {s t : State} {cam : Byte} {f : Camera → Camera}
    (hexec : exec i s = .next (s.updateCamera cam f)) (h : exec i s = .next t)
    (hlt : cam.toNat < s.cfg.nCameras) : t.cs = s.cs.modify cam.toNat f := by
  cases hexec.symm.trans h
  exact State.updateCamera_cs hlt f

/-- An operation on a camera that does not exist writes no register of any (spec/60_exceptions.md
R192). -/
theorem exec_cs_of_le {i : Instr} {s t : State} {cam : Byte} (h : exec i s = .next t)
    (hcam : cameraOf i = some cam) (hle : s.cfg.nCameras ≤ cam.toNat) : t.cs = s.cs := by
  cases effect_of_exec h with
  | outputs o _ => rfl
  | illegalCam => rfl
  | store cam' f _ hcam' hlt =>
    cases hcam.symm.trans hcam'
    exact absurd hlt (Nat.not_lt.mpr hle)
  | receive b _ =>
    obtain ⟨_, hcs, _⟩ := s.rxByte_frame b
    exact hcs
  | poll now => rfl
  | reset => cases hcam

theorem exec_reset_cs {s t : State} (h : exec .reset s = .next t) :
    t.cs = List.replicate s.cfg.nCameras (Camera.atReset s.cfg) := by
  cases h
  rfl

/-- Run with another register file, an operation that reads none ends in the same state outside the
file. -/
theorem exec_agreeOutsideFile {i : Instr} (hreads : readsCamera i = false) (s : State)
    (cs : List Camera) :
    ∃ t u, exec i s = .next t ∧ exec i { s with cs := cs } = .next u ∧ t.agreeOutsideFile u := by
  cases opForm i with
  | sends cam burst hexec =>
    exact ⟨_, _, hexec _, hexec _, State.withCamera_rel rfl ⟨_, rfl⟩ ⟨_, rfl⟩⟩
  | reports cam report hreads' => exact absurd hreads' (by simp [hreads])
  | stores cam update _ _ _ hexec =>
    exact ⟨_, _, hexec _, hexec _, State.withCamera_rel rfl ⟨_, rfl⟩ ⟨_, rfl⟩⟩
  | inquires heq =>
    subst heq
    exact ⟨_, _, rfl, rfl, _, rfl⟩
  | receives b _ hexec =>
    exact ⟨_, _, hexec _, hexec _,
      State.rxByte_rel rfl rfl rfl ⟨_, rfl⟩ ⟨_, rfl⟩ ⟨_, rfl⟩ ⟨_, rfl⟩ ⟨_, rfl⟩⟩
  | polls now heq =>
    subst heq
    by_cases hfire : s.cfg.pollIntervalMs ≤ s.elapsed now
    · exact ⟨_, _, exec_pollCheck_of_le hfire, exec_pollCheck_of_le hfire, _, rfl⟩
    · have hlt := Nat.lt_of_not_le hfire
      exact ⟨_, _, exec_pollCheck_of_lt hlt, exec_pollCheck_of_lt hlt, _, rfl⟩
  | resets heq =>
    subst heq
    exact ⟨_, _, rfl, rfl, _, rfl⟩

/-- Settles O18: the two runs agree outside the file, and each clause about the file says what one run
writes, of both runs. -/
theorem onlyGettersAndAbsMoveReadCameraState :
    Obligations.OnlyGettersAndAbsMoveReadCameraState := by
  intro i s t cs' hreads h
  obtain ⟨_, _, ht, hu, cs'', rfl⟩ := exec_agreeOutsideFile hreads s cs'
  cases ht.symm.trans h
  refine ⟨cs'', hu, fun hwrites => ?_, ?_, fun cam hcam hle => ?_, ?_, ?_, ?_, ?_⟩
  · exact ⟨onlySettersAndResetWriteCameraState i _ _ hwrites h,
      onlySettersAndResetWriteCameraState i _ _ hwrites hu⟩
  · rintro rfl
    exact (exec_reset_cs hu).trans (exec_reset_cs h).symm
  · exact ⟨exec_cs_of_le h hcam hle, exec_cs_of_le hu hcam hle⟩
  · rintro cam a rfl hlt
    exact ⟨_, cs_of_exec_eq_updateCamera (exec_setPan cam a _) h hlt,
      cs_of_exec_eq_updateCamera (exec_setPan cam a _) hu hlt⟩
  · rintro cam a rfl hlt
    exact ⟨_, cs_of_exec_eq_updateCamera (exec_setTilt cam a _) h hlt,
      cs_of_exec_eq_updateCamera (exec_setTilt cam a _) hu hlt⟩
  · rintro cam a rfl hlt
    exact ⟨_, cs_of_exec_eq_updateCamera (exec_setZoom cam a _) h hlt,
      cs_of_exec_eq_updateCamera (exec_setZoom cam a _) hu hlt⟩
  · rintro cam a rfl hlt
    exact ⟨_, cs_of_exec_eq_updateCamera (exec_setFocus cam a _) h hlt,
      cs_of_exec_eq_updateCamera (exec_setFocus cam a _) hu hlt⟩

end Sys2Proof.Machine
end

section
/-! The transmit stream of a run (spec/20_memory.md R56, R60): the bursts of its steps, in arrival
order. -/

namespace Sys2Proof.Machine

/-- A step takes at most the first event offered, and appends to the transmit stream exactly the bytes its
outputs report. -/
theorem step_inbox_txSink {s t : State} (h : step s = .next t) :
    t.inbox = s.inbox.drop 1 ∧ t.txSink = s.txSink ++ t.out.tx := by
  obtain ⟨_, ⟨hin, rfl⟩ | ⟨e, rest, i, hin, _, hexec⟩ | ⟨e, rest, _, hin, _, rfl⟩⟩ := step_cases h
  · simp [hin]
  · obtain ⟨_, hinbox, htx⟩ := operationsLeaveParametersAndArrivals i _ _ hexec
    exact ⟨by rw [hinbox, hin, List.drop_one, List.tail_cons], htx⟩
  · simp [hin]

/-- A run that ends in a next state is a first step and a run of the others. -/
theorem core_run_succ_cases {M : Host.Core} {k : Nat} {s t : M.State}
    (h : M.run (k + 1) s = .next t) : ∃ r, M.step s = .next r ∧ M.run k r = .next t := by
  cases hstep : M.step s with
  | next r => exact ⟨r, rfl, by simpa only [Host.Core.run, hstep] using h⟩
  | fault f => simp [Host.Core.run, hstep] at h
  | refused f => simp [Host.Core.run, hstep] at h

theorem State.trace_succ_of_next {s r : State} (h : step s = .next r) (k : Nat) :
    s.trace (k + 1) = r.out :: r.trace k := by
  simp only [State.trace, h]

/-- Settles O14, by induction on the number of steps. -/
theorem transmitStreamIsConcatenationOfBursts :
    Obligations.TransmitStreamIsConcatenationOfBursts := by
  intro k
  induction k with
  | zero =>
    intro s t h
    cases h
    exact ⟨rfl, (List.append_nil _).symm⟩
  | succ k ih =>
    intro s t h
    obtain ⟨r, hstep, hrun⟩ := core_run_succ_cases h
    obtain ⟨hinbox, htx⟩ := step_inbox_txSink hstep
    obtain ⟨hinbox', htx'⟩ := ih r t hrun
    constructor
    · rw [hinbox', hinbox, List.drop_drop, Nat.add_comm]
    · rw [htx', htx, State.trace_succ_of_next hstep, List.flatMap_cons, List.append_assoc]

end Sys2Proof.Machine
end

section
/-! Repeating a setter (spec/20_memory.md R57): what it writes into its camera's registers does not depend
on the register it overwrites. -/

namespace Sys2Proof.Machine

theorem State.updateCamera_of_le {s : State} {cam : Byte} (h : s.cfg.nCameras ≤ cam.toNat)
    (f : Camera → Camera) : s.updateCamera cam f = s.raiseError .illegalCam :=
  State.withCamera_of_le h _

/-- Changing one camera twice by an idempotent function leaves the file of changing it once, whether or not
the camera exists. -/
theorem State.updateCamera_idem_cs (s : State) (cam : Byte) {f : Camera → Camera}
    (hf : ∀ k, f (f k) = f k) :
    ((s.updateCamera cam f).updateCamera cam f).cs = (s.updateCamera cam f).cs := by
  rcases Nat.lt_or_ge cam.toNat s.cfg.nCameras with hlt | hle
  · have hlt' : cam.toNat < (s.updateCamera cam f).cfg.nCameras := by
      rwa [State.updateCamera, State.withCamera_of_lt hlt]
    rw [State.updateCamera_cs hlt', State.updateCamera_cs hlt, List.modify_modify_eq]
    exact congrArg (s.cs.modify cam.toNat ·) (funext hf)
  · rw [State.updateCamera_of_le hle, State.updateCamera_of_le (s := s.raiseError .illegalCam) hle,
      State.raiseError_cs]

/-- A setter writes one register of its camera with a value of the parameters and its operand alone, so its
update is idempotent; the one other operation that writes the register file is `RESET`. -/
theorem writesCamera_cases {i : Instr} (h : writesCamera i = true) :
    i = .reset ∨ ∃ (cam : Byte) (update : Config → Camera → Camera),
      (∀ c k, update c (update c k) = update c k) ∧
      ∀ s, exec i s = .next (s.updateCamera cam (update s.cfg)) := by
  cases i with
  | setPan cam v =>
    exact .inr ⟨cam, fun c k => { k with pan := clampPan c v }, fun _ _ => rfl, exec_setPan cam v⟩
  | setTilt cam v =>
    exact .inr ⟨cam, fun c k => { k with tilt := clampTilt c v }, fun _ _ => rfl, exec_setTilt cam v⟩
  | setZoom cam v =>
    exact .inr ⟨cam, fun c k => { k with zoom := clampZoom c v }, fun _ _ => rfl, exec_setZoom cam v⟩
  | setFocus cam v =>
    exact .inr ⟨cam, fun c k => { k with focus := clampFocus c v }, fun _ _ => rfl,
      exec_setFocus cam v⟩
  | reset => exact .inl rfl
  | _ => cases h

/-- Settles O48: the parameters are the same in both runs, and with them the reset values and the setter's
idempotent update. -/
theorem settersAreIdempotent : Obligations.SettersAreIdempotent := by
  intro i s t u hwrites _ ht hu
  obtain ⟨hcfg, _, _⟩ := operationsLeaveParametersAndArrivals i s t ht
  rcases writesCamera_cases hwrites with rfl | ⟨cam, update, hidem, hexec⟩
  · rw [exec_reset_cs hu, exec_reset_cs ht, hcfg]
  · cases (hexec t).symm.trans hu
    cases (hexec s).symm.trans ht
    rw [hcfg]
    exact State.updateCamera_idem_cs s cam (hidem s.cfg)

end Sys2Proof.Machine
end

section
/-! The decoder and the encoder (spec/30_encoding.md R70, R71, R72, R84): what a request and a received
byte are read as, and the two directions together. -/

namespace Sys2Proof

/-- The operation codes that spec/30_encoding.md R71 leaves unassigned (R88). -/
abbrev unassigned (op : Byte) : Prop := (0x0A ≤ op.toNat ∧ op.toNat ≤ 0x0F) ∨ 0x18 ≤ op.toNat

/-- A request is read as a well-formed operation of its code's row, or its code is unassigned. -/
theorem decodeRequest_cases (w : BitVec 80) :
    (¬ unassigned (reqOp w) ∧
      ∃ i, decodeRequest w = .ok i ∧ i.wellFormed = true ∧ Laws.rowOp i = some (reqOp w)) ∨
    (unassigned (reqOp w) ∧ decodeRequest w = .error (.illegalOp (reqOp w))) := by
  unfold decodeRequest
  split
  case h_19 =>
    refine .inr ⟨?_, rfl⟩
    unfold unassigned
    simp only [imp_false] at *
    omega
  all_goals
    next hop =>
      exact .inl ⟨by unfold unassigned; omega, _, rfl, rfl,
        congrArg some (BitVec.eq_of_toNat_eq hop).symm⟩

theorem decodeRequest_inquireAll (cam : Byte) (a b : Word) :
    decodeRequest (request 0x09 cam a b) = .ok .inquireAll :=
  decodeRequest_request ..

theorem decodeRxByte_of_isPayload {b : Byte} (h : Machine.isPayload b) : decodeRxByte b = .rxData b :=
  (if_neg h.1).trans (if_neg h.2)

/-- The byte of a well-formed `RX_DATA` is payload (spec/30_encoding.md R84). -/
theorem wellFormed_rxData_iff (b : Byte) :
    (Instr.rxData b).wellFormed = true ↔ Machine.isPayload b := by
  simp [Instr.wellFormed, Machine.isPayload]

/-- A received byte is read as a well-formed term, whose encoding is that byte. -/
theorem decodeRxByte_encode (b : Byte) :
    (decodeRxByte b).wellFormed = true ∧ encode (decodeRxByte b) = .rxByte b := by
  by_cases hstart : b = startByte
  · exact hstart ▸ ⟨rfl, rfl⟩
  by_cases hterm : b = termByte
  · exact hterm ▸ ⟨rfl, rfl⟩
  have hb : Machine.isPayload b := ⟨hstart, hterm⟩
  rw [decodeRxByte_of_isPayload hb]
  exact ⟨(wellFormed_rxData_iff b).mpr hb, rfl⟩

/-- Settles O1: a request is decoded by its four fields, and a received byte by its class. -/
theorem decodeOfEncodeIsIdentity : Obligations.DecodeOfEncodeIsIdentity := by
  intro i hwf
  cases i with
  | inquireAll => exact decodeRequest_inquireAll 0 0 0
  | rxStart => rfl
  | rxTerm => rfl
  | rxData b => exact congrArg Except.ok (decodeRxByte_of_isPayload ((wellFormed_rxData_iff b).mp hwf))
  | pollCheck now => rfl
  | reset => rfl
  | _ => exact decodeRequest_request ..

/-- The encoding of every operation carries its row's code. -/
theorem eventOp_encode (i : Instr) : Laws.eventOp (encode i) = Laws.rowOp i := by
  cases i with
  | rxStart => rfl
  | rxTerm => rfl
  | rxData b => rfl
  | pollCheck now => rfl
  | reset => rfl
  | _ => exact congrArg some (reqOp_request ..)

/-- An event with an operation code is a request of that code. -/
theorem eq_cmd_of_eventOp {e : Event} {op : Byte} (h : Laws.eventOp e = some op) :
    ∃ w, e = .cmd w ∧ reqOp w = op := by
  cases e with
  | cmd w => exact ⟨w, rfl, Option.some.inj h⟩
  | _ => cases h

/-- Settles O2: a request's operation belongs to the row of its code, which its encoding carries again. -/
theorem decodedOperationReencodes : Obligations.DecodedOperationReencodes := by
  intro e i h
  cases e with
  | cmd w =>
    rcases decodeRequest_cases w with ⟨_, i', hdecode, hwf, hrow⟩ | ⟨_, herror⟩
    · cases hdecode.symm.trans h
      refine ⟨hwf, fun w₀ he => ?_, fun hne => absurd rfl (hne w)⟩
      cases he
      exact eq_cmd_of_eventOp ((eventOp_encode i).trans hrow)
    · cases herror.symm.trans h
  | rxByte b =>
    cases h
    obtain ⟨hwf, hencode⟩ := decodeRxByte_encode b
    exact ⟨hwf, nofun, fun _ => hencode⟩
  | pollCheck now =>
    cases h
    exact ⟨rfl, nofun, fun _ => rfl⟩
  | reset =>
    cases h
    exact ⟨rfl, nofun, fun _ => rfl⟩

/-- Only `BLINK` and `REL_MOVE` read the second operand. -/
theorem decodeRequest_request_congr_b {op : Byte} (hblink : op ≠ 0x00) (hrelMove : op ≠ 0x07)
    (cam : Byte) (a b b' : Word) :
    decodeRequest (request op cam a b) = decodeRequest (request op cam a b') := by
  rw [decodeRequest_request, decodeRequest_request]
  split
  case h_1 hop => exact absurd (BitVec.eq_of_toNat_eq hop) hblink
  case h_8 hop => exact absurd (BitVec.eq_of_toNat_eq hop) hrelMove
  all_goals rfl

/-- `ABS_MOVE`, `INQUIRE_ALL` and the getters read neither operand. -/
theorem decodeRequest_request_congr_operands {op : Byte}
    (h : op ∈ [0x08, 0x09, 0x14, 0x15, 0x16, 0x17]) (cam : Byte) (a a' b b' : Word) :
    decodeRequest (request op cam a b) = decodeRequest (request op cam a' b') := by
  rw [decodeRequest_request, decodeRequest_request]
  simp only [List.mem_cons, List.not_mem_nil, or_false] at h
  rcases h with rfl | rfl | rfl | rfl | rfl | rfl <;> rfl

/-- Settles O3. -/
theorem unusedOperandFieldsHaveNoEffect : Obligations.UnusedOperandFieldsHaveNoEffect := by
  intro op cam cam' a a' b b'
  exact ⟨fun hblink hrelMove => decodeRequest_request_congr_b hblink hrelMove cam a b b',
    fun h => decodeRequest_request_congr_operands h cam a a' b b',
    (decodeRequest_inquireAll cam a b).trans (decodeRequest_inquireAll cam' a' b').symm⟩

/-- A field of a request word, as a quotient and a remainder. -/
theorem toNat_extractLsb'_eq (w : BitVec 80) (start len : Nat) :
    (w.extractLsb' start len).toNat = w.toNat / 2 ^ start % 2 ^ len := by
  rw [BitVec.extractLsb'_toNat, Nat.shiftRight_eq_div_pow]

/-- Adjacent fields put together are one field, and the field of all 80 bits is the word. -/
theorem request_fields (w : BitVec 80) : request (reqOp w) (reqCam w) (reqA w) (reqB w) = w := by
  unfold request reqOp reqCam reqA reqB
  rw [BitVec.extractLsb'_append_extractLsb'_eq_extractLsb' (show 72 = 64 + 8 from rfl),
    BitVec.extractLsb'_append_extractLsb'_eq_extractLsb' (show 64 = 32 + 32 from rfl),
    BitVec.extractLsb'_append_extractLsb'_eq_extractLsb' (show 32 = 0 + 32 from rfl)]
  exact BitVec.extractLsb'_eq_self

/-- Settles O4. -/
theorem requestFieldsAreTheWord : Obligations.RequestFieldsAreTheWord := by
  intro w
  have hop : (reqOp w).toNat = w.toNat / 2 ^ 72 := by
    rw [reqOp, toNat_extractLsb'_eq, Nat.mod_eq_of_lt]
    have hw := w.isLt
    omega
  have hb : (reqB w).toNat = w.toNat % 2 ^ 32 := by
    rw [reqB, toNat_extractLsb'_eq, Nat.pow_zero, Nat.div_one]
  exact ⟨hop, toNat_extractLsb'_eq .., toNat_extractLsb'_eq .., hb, request_fields w⟩

/-- Settles O5: only a request is refused, and exactly one with an unassigned code. -/
theorem decoderRefusesExactlyUnassignedOps : Obligations.DecoderRefusesExactlyUnassignedOps := by
  intro e
  constructor
  · rintro ⟨r, h⟩
    cases e with
    | cmd w =>
      rcases decodeRequest_cases w with ⟨_, i, hdecode, _⟩ | ⟨hop, _⟩
      · cases hdecode.symm.trans h
      · exact ⟨w, rfl, hop⟩
    | _ => cases h
  · rintro ⟨w, rfl, hop⟩
    rcases decodeRequest_cases w with ⟨hassigned, _⟩ | ⟨_, herror⟩
    · exact absurd hop hassigned
    · exact ⟨_, herror⟩

/-- Settles O6: the decoder's test of the class is this one. -/
theorem receivedByteHasItsClass : Obligations.ReceivedByteHasItsClass :=
  fun _ => rfl

/-- Settles O7, by evaluating the decoder. -/
theorem writtenOutWordsDecode : Obligations.WrittenOutWordsDecode :=
  ⟨rfl, rfl, rfl, rfl, rfl, rfl⟩

end Sys2Proof
end

section
/-! What an operation transmits (spec/30_encoding.md R73, R74, R75, R85, R86): the bodies of its packets,
once for every operation, and from them the shape and the length of its burst. -/

namespace Sys2Proof.Machine

/-- The bodies of the packets an operation sends to a camera with registers `k` (spec/30_encoding.md R75);
the inquiry burst, which goes to every camera, is `inquiryBurst`. -/
def packetBodies (k : Camera) : Instr → List (List Byte)
  | .blink _ led mode => [[0x01, 0x33, lowByte led, lowByte mode]]
  | .flip _ t => [[0x01, 0x04, 0x66, onOff t]]
  | .mirror _ t => [[0x01, 0x04, 0x61, onOff t]]
  | .backlight _ t => [[0x01, 0x04, 0x33, 0x02, onOff t]]
  | .motionDetect _ t => [[0x01, 0x50, 0x30, 0x01, flag01 t]]
  | .whiteBalance _ v =>
    [[0x01, 0x04, 0x35, if isAuto v then 0x00 else 0x06], [0x01, 0x04, 0x75] ++ toNibbles v.toInt]
  | .iris _ v =>
    [[0x01, 0x04, 0x39, if isAuto v then 0x00 else 0x03], [0x01, 0x04, 0x4B] ++ toNibbles v.toInt]
  | .relMove _ dx dy =>
    [[0x01, 0x06, 0x01, 0x00, 0x00, 0x03, 0x03],
     [0x01, 0x06, 0x01, speed dx.toInt, speed dy.toInt, dir dx.toInt, dir dy.toInt]]
  | .absMove _ =>
    [[0x01, 0x04, 0x38, if k.focus.toInt = -1 then 0x02 else 0x03],
     [0x01, 0x06, 0x01, 0x03, 0x03, 0x03, 0x03],
     [0x01, 0x06, 0x20] ++ toNibbles k.pan.toNat ++ toNibbles k.tilt.toNat
       ++ toNibbles k.zoom.toNat ++ toNibbles k.focus.toInt]
  | _ => []

/-- An operation with a camera operand makes the camera check and then sends its packets to that camera. -/
theorem exec_of_cameraOf {i : Instr} {cam : Byte} (hcam : cameraOf i = some cam) (s : State) :
    ∃ effect : Nat → State, exec i s = .next (s.withCamera cam effect) ∧
      ∀ c, (effect c).out.tx = (packetBodies (s.camera c) i).flatMap (wrap · c) := by
  cases i with
  | inquireAll => cases hcam
  | rxStart => cases hcam
  | rxTerm => cases hcam
  | rxData b => cases hcam
  | pollCheck now => cases hcam
  | reset => cases hcam
  | _ =>
    cases hcam
    exact ⟨_, rfl, fun _ => rfl⟩

theorem State.rxByte_tx (s : State) (b : Byte) : (s.rxByte b).out.tx = [] := by
  rcases s.rxByte_cases b with ⟨_, h⟩ | ⟨_, _, h⟩ | ⟨_, _, _, h⟩ | ⟨_, _, _, h⟩ | ⟨_, _, _, h⟩ <;>
    simp [h]

/-- What the outputs `o` of operation `i` in state `s` can transmit. -/
inductive Transmits (s : State) (i : Instr) (o : Outputs) : Prop
  /-- The operation's packets to its camera; none for a setter or a getter. -/
  | packets (cam : Byte) (hcam : cameraOf i = some cam) (hlt : cam.toNat < s.cfg.nCameras)
      (htx : o.tx = (packetBodies (s.camera cam.toNat) i).flatMap (wrap · cam.toNat))
  /-- The inquiry burst, of `INQUIRE_ALL` or of a poll check that fires. -/
  | inquiry (hcam : cameraOf i = none) (hlen : burstLength s.cfg.nCameras i = 5 * s.cfg.nCameras)
      (htx : o.tx = inquiryBurst s.cfg.nCameras)
  /-- Nothing: at an error, from a poll check that does not fire, or from an operation without packets. -/
  | nothing (htx : o.tx = [])
      (hwhy : o.err ≠ none ∨ (∃ now, i = .pollCheck now) ∨ burstLength s.cfg.nCameras i = 0)

theorem transmits_of_exec {i : Instr} {s t : State} (h : exec i s = .next t) : Transmits s i t.out := by
  cases hcam : cameraOf i with
  | some cam =>
    obtain ⟨effect, hexec, htx⟩ := exec_of_cameraOf hcam s
    cases hexec.symm.trans h
    rcases s.withCamera_cases cam effect with ⟨hlt, heq⟩ | ⟨_, heq⟩ <;> rw [heq]
    · exact .packets cam hcam hlt (htx cam.toNat)
    · exact .nothing rfl (.inl nofun)
  | none =>
    cases i with
    | inquireAll =>
      cases h
      exact .inquiry rfl rfl rfl
    | rxStart =>
      cases h
      exact .nothing (s.rxByte_tx _) (.inr (.inr rfl))
    | rxTerm =>
      cases h
      exact .nothing (s.rxByte_tx _) (.inr (.inr rfl))
    | rxData b =>
      cases h
      exact .nothing (s.rxByte_tx b) (.inr (.inr rfl))
    | pollCheck now =>
      rcases execPollCheck_cases now s with ⟨_, hexec⟩ | ⟨_, hexec⟩ <;> cases hexec.symm.trans h
      · exact .inquiry rfl rfl rfl
      · exact .nothing rfl (.inr (.inl ⟨now, rfl⟩))
    | reset =>
      cases h
      exact .nothing rfl (.inr (.inr rfl))
    | _ => cases hcam

/-! The length of a burst (spec/30_encoding.md R74, R85). -/

/-- The packets of an operation have the length of its format (spec/30_encoding.md R74), whatever the
operands and registers. -/
theorem packetBodies_length {i : Instr} {cam : Byte} (hcam : cameraOf i = some cam) (k : Camera)
    (c n : Nat) : ((packetBodies k i).flatMap (wrap · c)).length = burstLength n i := by
  cases i with
  | inquireAll => cases hcam
  | pollCheck now => cases hcam
  | _ => rfl

/-- Settles O26: a burst is the operation's packets, the inquiry burst, or nothing, and each has its
length. -/
theorem burstLengthIsFixedPerOperation : Obligations.BurstLengthIsFixedPerOperation := by
  intro i s t h
  cases transmits_of_exec h with
  | packets cam hcam _ htx =>
    have hlen : t.out.tx.length = burstLength s.cfg.nCameras i := by
      rw [htx, packetBodies_length hcam]
    exact ⟨fun _ _ => hlen, .inr hlen⟩
  | inquiry _ hinquiry htx =>
    have hlen : t.out.tx.length = burstLength s.cfg.nCameras i := by
      rw [htx, inquiryBurst_length, hinquiry]
    exact ⟨fun _ _ => hlen, .inr hlen⟩
  | nothing htx hwhy =>
    have hlen : t.out.tx.length = 0 := congrArg List.length htx
    refine ⟨fun hpoll herr => ?_, .inl hlen⟩
    rcases hwhy with herr' | ⟨now, hi⟩ | hzero
    · exact absurd herr herr'
    · exact absurd hi (hpoll now)
    · rw [hlen, hzero]

/-! Every byte before the end of a packet is below the terminator, 0xFF (spec/30_encoding.md R86). -/

theorem nibble_lt_term (u : BitVec 16) (k : Nat) : (nibble u k).toNat < 0xFF :=
  Nat.lt_of_le_of_lt (nibble_toNat_le u k) (by decide)

theorem speed_lt_term (d : Int) : (speed d).toNat < 0xFF := by
  rw [speed_toNat]
  exact Nat.lt_of_le_of_lt (Nat.min_le_left _ _) (by decide)

theorem ite_lt_term {p : Prop} [Decidable p] {x y : Byte} (hx : x.toNat < 0xFF) (hy : y.toNat < 0xFF) :
    (if p then x else y).toNat < 0xFF := by
  split
  · exact hx
  · exact hy

theorem dir_lt_term (d : Int) : (dir d).toNat < 0xFF :=
  ite_lt_term (by decide) (ite_lt_term (by decide) (by decide))

theorem onOff_lt_term (a : Word) : (onOff a).toNat < 0xFF := ite_lt_term (by decide) (by decide)

theorem flag01_lt_term (a : Word) : (flag01 a).toNat < 0xFF := ite_lt_term (by decide) (by decide)

theorem lowByte_lt_term {a : Word} (h : a.toNat % 256 ≠ 0xFF) : (lowByte a).toNat < 0xFF := by
  rw [lowByte_eq, BitVec.toNat_ofNat]
  omega

/-- The address byte of a camera that exists is 0x81 to 0x87 (spec/30_encoding.md R76). -/
theorem addrByte_lt_term {c : Nat} (h : c < 7) : (addrByte c).toNat < 0xFF := by
  simp only [addrByte, addrBase, BitVec.toNat_add, BitVec.toNat_ofNat, BitVec.reduceToNat]
  omega

/-- Where the operation is `BLINK`, the operand bytes it passes through are not the terminator. -/
abbrev blinkAvoidsTerm (i : Instr) : Prop :=
  ∀ cam led mode, i = .blink cam led mode → led.toNat % 256 ≠ 0xFF ∧ mode.toNat % 256 ≠ 0xFF

theorem packetBodies_lt_term {i : Instr} (hblink : blinkAvoidsTerm i) (k : Camera) :
    ∀ body ∈ packetBodies k i, ∀ b ∈ body, b.toNat < 0xFF := by
  cases i with
  | blink cam led mode =>
    obtain ⟨hled, hmode⟩ := hblink cam led mode rfl
    simp [packetBodies, lowByte_lt_term hled, lowByte_lt_term hmode]
  | flip cam t => simp [packetBodies, onOff_lt_term]
  | mirror cam t => simp [packetBodies, onOff_lt_term]
  | backlight cam t => simp [packetBodies, onOff_lt_term]
  | motionDetect cam t => simp [packetBodies, flag01_lt_term]
  | whiteBalance cam v => simp [packetBodies, ite_lt_term, toNibbles, nibble_lt_term]
  | iris cam v => simp [packetBodies, ite_lt_term, toNibbles, nibble_lt_term]
  | relMove cam dx dy => simp [packetBodies, speed_lt_term, dir_lt_term]
  | absMove cam => simp [packetBodies, ite_lt_term, toNibbles, nibble_lt_term]
  | _ => nofun

/-! The packets of a burst (spec/30_encoding.md R73). -/

/-- `bytes` is whole packets, each addressed to a camera below `n`, which is `cam` where that is given, and
free of the terminator before its end. -/
def wholePackets (n : Nat) (cam : Option Byte) (bytes : List Byte) : Prop :=
  ∃ ps : List (Nat × List Byte), bytes = ps.flatMap packet ∧
    ∀ p ∈ ps, p.1 < n ∧ termByte ∉ addrByte p.1 :: p.2 ∧ ∀ c, cam = some c → p.1 = c.toNat

theorem wholePackets_nil (n : Nat) (cam : Option Byte) : wholePackets n cam [] :=
  ⟨[], rfl, nofun⟩

theorem wholePackets_append {n : Nat} {cam : Option Byte} {l r : List Byte}
    (hl : wholePackets n cam l) (hr : wholePackets n cam r) : wholePackets n cam (l ++ r) := by
  obtain ⟨ps, rfl, hps⟩ := hl
  obtain ⟨qs, rfl, hqs⟩ := hr
  refine ⟨ps ++ qs, List.flatMap_append.symm, fun p hp => ?_⟩
  rcases List.mem_append.mp hp with hp | hp
  · exact hps p hp
  · exact hqs p hp

theorem wholePackets_flatMap {α : Type} {n : Nat} {cam : Option Byte} {l : List α} {f : α → List Byte}
    (h : ∀ x ∈ l, wholePackets n cam (f x)) : wholePackets n cam (l.flatMap f) := by
  induction l with
  | nil => exact wholePackets_nil n cam
  | cons x l ih =>
    obtain ⟨hx, hl⟩ := List.forall_mem_cons.mp h
    rw [List.flatMap_cons]
    exact wholePackets_append hx (ih hl)

theorem wholePackets_wrap {n c : Nat} {cam : Option Byte} {body : List Byte} (hn : n ≤ 7) (hc : c < n)
    (hcam : ∀ d, cam = some d → c = d.toNat) (hbody : ∀ b ∈ body, b.toNat < 0xFF) :
    wholePackets n cam (wrap body c) := by
  have hbytes : ∀ b ∈ addrByte c :: body, b.toNat < 0xFF :=
    List.forall_mem_cons.mpr ⟨addrByte_lt_term (Nat.lt_of_lt_of_le hc hn), hbody⟩
  refine ⟨[(c, body)], by rw [wrap_eq_packet, List.flatMap_singleton], fun p hp => ?_⟩
  obtain rfl := List.mem_singleton.mp hp
  exact ⟨hc, fun hmem => absurd (hbytes termByte hmem) (by decide), hcam⟩

/-- Settles O25: a burst is the operation's packets to its camera, the inquiry packets, or nothing. -/
theorem burstsAreWholeAddressedPackets : Obligations.BurstsAreWholeAddressedPackets := by
  intro i s t ⟨_, hn, _⟩ h hblink
  show wholePackets s.cfg.nCameras (cameraOf i) t.out.tx
  cases transmits_of_exec h with
  | packets cam hcam hlt htx =>
    rw [htx, hcam]
    refine wholePackets_flatMap fun body hbody => wholePackets_wrap hn hlt ?_ ?_
    · exact fun d hd => congrArg BitVec.toNat (Option.some.inj hd)
    · exact packetBodies_lt_term hblink _ body hbody
  | inquiry hcam _ htx =>
    rw [htx, hcam]
    refine wholePackets_flatMap fun c hc => wholePackets_wrap hn (List.mem_range.mp hc) nofun ?_
    decide
  | nothing htx _ =>
    rw [htx]
    exact wholePackets_nil _ _

end Sys2Proof.Machine
end

section
/-! The nibble codec and the motion bytes (spec/40_nibble_codec.md R100, R101, R105, R106): each helper's
value in plain arithmetic, for every integer operand. -/

namespace Sys2Proof.Machine

/-! The nibbles (R100, R101). -/

/-- A shift by `k` and a mask of four bits are a quotient by `2 ^ k` and a remainder by 16. -/
theorem nibble_toNat (u : BitVec 16) (k : Nat) : (nibble u k).toNat = u.toNat / 2 ^ k % 16 := by
  have hmask : u.toNat >>> k &&& 15 = u.toNat / 2 ^ k % 16 := by
    rw [Nat.and_two_pow_sub_one_eq_mod _ 4, Nat.shiftRight_eq_div_pow]
  have hbyte : u.toNat / 2 ^ k % 16 < 2 ^ 8 := Nat.lt_trans (Nat.mod_lt _ (by decide)) (by decide)
  simp only [nibble, BitVec.toNat_setWidth, BitVec.toNat_and, BitVec.toNat_ushiftRight]
  exact (congrArg (· % 2 ^ 8) hmask).trans (Nat.mod_eq_of_lt hbyte)

theorem toNibbles_map_toNat (v : Int) :
    (toNibbles v).map (fun n => n.toNat) =
      [(BitVec.ofInt 16 v).toNat / 4096 % 16, (BitVec.ofInt 16 v).toNat / 256 % 16,
        (BitVec.ofInt 16 v).toNat / 16 % 16, (BitVec.ofInt 16 v).toNat % 16] := by
  simp [toNibbles, nibble_toNat]

theorem lowWord_toNat_cast (v : Int) : ((BitVec.ofInt 16 v).toNat : Int) = v % 65536 := by
  rw [BitVec.toNat_ofInt]
  exact Int.toNat_of_nonneg (Int.emod_nonneg v (by decide))

/-- Settles O27: `u` is the low 16 bits of `v`, read as an unsigned number. -/
theorem nibblesAreBigEndianGroupsOfLowWord : Obligations.NibblesAreBigEndianGroupsOfLowWord :=
  fun v => ⟨(BitVec.ofInt 16 v).toNat, lowWord_toNat_cast v, toNibbles_map_toNat v⟩

/-- The nibbles as base 16 digits, most significant first, are `v mod 65536`. -/
theorem toNibbles_foldl (v : Int) :
    ((toNibbles v).foldl (fun acc n => acc * 16 + n.toNat) 0 : Int) = v % 65536 := by
  have hu : (BitVec.ofInt 16 v).toNat < 65536 := (BitVec.ofInt 16 v).isLt
  calc ((toNibbles v).foldl (fun acc n => acc * 16 + n.toNat) 0 : Int)
    _ = ((toNibbles v).map (fun n => n.toNat)).foldl (fun (acc : Int) (m : Nat) => acc * 16 + m) 0 :=
        List.foldl_map.symm
    _ = (BitVec.ofInt 16 v).toNat := by
        rw [toNibbles_map_toNat]
        simp only [List.foldl_cons, List.foldl_nil]
        omega
    _ = v % 65536 := lowWord_toNat_cast v

/-- Settles O28: a value of 0 to 65535 is its own remainder. -/
theorem nibblesReassemble : Obligations.NibblesReassemble := fun v =>
  ⟨toNibbles_foldl v, fun h0 h1 =>
    (toNibbles_foldl v).trans (Int.emod_eq_of_lt h0 (Int.lt_add_one_of_le h1))⟩

/-! The speed byte (R105). -/

@[simp] theorem speed_neg (d : Int) : speed (-d) = speed d := by
  simp only [speed, Int.natAbs_neg]

/-- 99 is the first magnitude whose rounded quotient reaches 31. -/
theorem speed_toNat_of_saturated {d : Int} (h : 99 ≤ d.natAbs) : (speed d).toNat = 31 := by
  have hq : 31 ≤ (d.natAbs * 31 + 50) / 100 := by omega
  rw [speed_toNat, Nat.min_eq_left hq]

/-- Up to full speed the bound of 31 does not act. -/
theorem speed_toNat_of_le_full {d : Int} (h : d.natAbs ≤ 100) :
    (speed d).toNat = (d.natAbs * 31 + 50) / 100 := by
  have hq : (d.natAbs * 31 + 50) / 100 ≤ 31 := by omega
  rw [speed_toNat, Nat.min_eq_right hq]

/-- Settles O29: the byte is the quotient of `abs(d) * 31 + 50` by 100 up to 100, and 31 from 99 on. -/
theorem speedIsRoundedAndSaturates : Obligations.SpeedIsRoundedAndSaturates := by
  intro d
  refine ⟨?_, speed_neg d, speed_toNat_of_saturated, fun h => ?_⟩
  · rw [speed_toNat]
    exact Nat.min_le_left _ _
  · rw [speed_toNat_of_le_full h]
    exact ⟨Nat.mul_div_le _ _, Nat.lt_mul_div_succ _ (by decide)⟩

/-! The direction byte (R106). -/

theorem dir_of_pos {d : Int} (h : 0 < d) : dir d = 0x02 := if_pos h

theorem dir_of_neg {d : Int} (h : d < 0) : dir d = 0x01 :=
  (if_neg (Int.not_lt_of_ge (Int.le_of_lt h))).trans (if_pos h)

theorem dir_zero : dir 0 = 0x03 := rfl

/-- Settles O30, sign by sign. -/
theorem directionFollowsSign : Obligations.DirectionFollowsSign :=
  fun _ => ⟨dir_of_pos, dir_of_neg, fun h => h ▸ dir_zero⟩

end Sys2Proof.Machine
end

section
/-! The setters and getters of CameraState (spec/41_camera_state.md R110 to R119): what storing into and
reading from the addressed camera do, once for all four registers, then the value of each clamp. -/

namespace Sys2Proof.Machine

/-! The states an operation leaves, in the statements' terms. -/

/-- An event that transmits nothing leaves the transmit stream. -/
theorem State.finish_of_tx_nil (s : State) {o : Outputs} (h : o.tx = []) :
    s.finish o = { s with out := o } := by
  rw [State.finish, h, List.append_nil]

theorem State.respond_eq_afterResponse (s : State) (v : Word) : s.respond v = s.afterResponse v :=
  s.finish_of_tx_nil rfl

theorem State.raiseError_illegalCam (s : State) : s.raiseError .illegalCam = s.afterIllegalCam :=
  (s.setStatus .illegalCam).finish_of_tx_nil rfl

/-! A setter: an operation whose meaning is `updateCamera`. -/

theorem State.updateCamera_of_getElem? {s : State} {cam : Byte} {k : Camera}
    (hlt : cam.toNat < s.cfg.nCameras) (hk : s.cs[cam.toNat]? = some k) (f : Camera → Camera) :
    s.updateCamera cam f = s.storeCamera cam.toNat (f k) := by
  rw [State.updateCamera, State.withCamera_of_lt hlt, State.camera_of_getElem? hk]

/-- The whole next state of a setter, for a camera that exists. -/
theorem exec_setter_of_lt {i : Instr} {s : State} {cam : Byte} {f : Camera → Camera} {k : Camera}
    (hexec : exec i s = .next (s.updateCamera cam f)) (hlt : cam.toNat < s.cfg.nCameras)
    (hk : s.cs[cam.toNat]? = some k) :
    exec i s = .next { s.afterBurst [] with cs := s.cs.set cam.toNat (f k) } :=
  hexec.trans (congrArg _ (State.updateCamera_of_getElem? hlt hk f))

/-- The whole next state of a setter, for a camera out of range (spec/60_exceptions.md R192). -/
theorem exec_setter_of_le {i : Instr} {s : State} {cam : Byte} {f : Camera → Camera}
    (hexec : exec i s = .next (s.updateCamera cam f)) (hle : s.cfg.nCameras ≤ cam.toNat) :
    exec i s = .next s.afterIllegalCam :=
  hexec.trans (congrArg _ ((State.updateCamera_of_le hle f).trans s.raiseError_illegalCam))

/-! A getter: an operation whose meaning is `readCamera`. -/

/-- The shared effect of the getters: the response `read` takes from the addressed camera's registers
(spec/41_camera_state.md R114 to R117). -/
def State.readCamera (s : State) (cam : Byte) (read : Camera → Word) : State :=
  s.withCamera cam fun c => s.respond (read (s.camera c))

theorem exec_getPan (cam : Byte) (s : State) :
    exec (.getPan cam) s = .next (s.readCamera cam (·.pan.setWidth 32)) := rfl

theorem exec_getTilt (cam : Byte) (s : State) :
    exec (.getTilt cam) s = .next (s.readCamera cam (·.tilt.setWidth 32)) := rfl

theorem exec_getZoom (cam : Byte) (s : State) :
    exec (.getZoom cam) s = .next (s.readCamera cam (·.zoom.setWidth 32)) := rfl

theorem exec_getFocus (cam : Byte) (s : State) :
    exec (.getFocus cam) s = .next (s.readCamera cam (·.focus.signExtend 32)) := rfl

theorem State.readCamera_of_getElem? {s : State} {cam : Byte} {k : Camera}
    (hlt : cam.toNat < s.cfg.nCameras) (hk : s.cs[cam.toNat]? = some k) (read : Camera → Word) :
    s.readCamera cam read = s.afterResponse (read k) := by
  rw [State.readCamera, State.withCamera_of_lt hlt, State.camera_of_getElem? hk,
    State.respond_eq_afterResponse]

/-- A getter answers the word whose signed value is the register's. -/
theorem exec_getter_of_toInt {i : Instr} {s : State} {cam : Byte} {read : Camera → Word} {k : Camera}
    {v : Word} (hexec : exec i s = .next (s.readCamera cam read)) (hlt : cam.toNat < s.cfg.nCameras)
    (hk : s.cs[cam.toNat]? = some k) (hv : v.toInt = (read k).toInt) :
    exec i s = .next (s.afterResponse v) := by
  rw [hexec, State.readCamera_of_getElem? hlt hk, BitVec.eq_of_toInt_eq hv]

/-! What a getter makes of a register: 16 unsigned bits with zeros above them are their own value
(notes/assumptions/13.md), 17 signed bits keep their sign. -/

theorem toInt_setWidth_register (r : BitVec 16) : (r.setWidth 32).toInt = r.toNat := by
  have hr := r.isLt
  rw [BitVec.toInt_setWidth]
  exact Int.bmod_eq_of_le (by omega) (by omega)

theorem toInt_signExtend_focus (r : BitVec 17) : (r.signExtend 32).toInt = r.toInt :=
  BitVec.toInt_signExtend_of_le (by decide)

/-- Settles O45: each register's widening keeps its value. -/
theorem gettersAnswerTheRegister : Obligations.GettersAnswerTheRegister := by
  intro cam s k v hlt hk
  refine ⟨fun hv => ?_, fun hv => ?_, fun hv => ?_, fun hv => ?_⟩
  · exact exec_getter_of_toInt (exec_getPan cam s) hlt hk (hv.trans (toInt_setWidth_register _).symm)
  · exact exec_getter_of_toInt (exec_getTilt cam s) hlt hk (hv.trans (toInt_setWidth_register _).symm)
  · exact exec_getter_of_toInt (exec_getZoom cam s) hlt hk (hv.trans (toInt_setWidth_register _).symm)
  · exact exec_getter_of_toInt (exec_getFocus cam s) hlt hk (hv.trans (toInt_signExtend_focus _).symm)

/-! The values the setters store (R11, R110 to R113): the register is wide enough for every clamped
operand, so the stored bits are the clamped value itself. -/

theorem toNat_ofInt_clamp (v : Int) (hi : BitVec 16) :
    ((BitVec.ofInt 16 (clamp v 0 hi.toNat)).toNat : Int) = max 0 (min v hi.toNat) := by
  have hhi := hi.isLt
  rw [clamp_eq (Int.natCast_nonneg _), lowWord_toNat_cast]
  exact Int.emod_eq_of_lt (by omega) (by omega)

theorem clampFocus_toInt_eq_max_min (c : Config) (a : Word) :
    (clampFocus c a).toInt = max (-1) (min a.toInt c.focusMax.toNat) := by
  rw [clampFocus_toInt, clamp_eq (by omega)]

/-- The 16-bit register that holds a clamped value is the one the setters compute. -/
theorem eq_ofInt_clamp {p hi : BitVec 16} {v : Int} (hp : (p.toNat : Int) = max 0 (min v hi.toNat)) :
    p = BitVec.ofInt 16 (clamp v 0 hi.toNat) :=
  BitVec.eq_of_toNat_eq (Int.ofNat.inj (hp.trans (toNat_ofInt_clamp v hi).symm))

theorem eq_clampFocus {p : BitVec 17} {c : Config} {a : Word}
    (hp : p.toInt = max (-1) (min a.toInt c.focusMax.toNat)) : p = clampFocus c a :=
  BitVec.eq_of_toInt_eq (hp.trans (clampFocus_toInt_eq_max_min c a).symm)

/-- Settles O41: a register with the clamped value holds the bits `SET_PAN` stores. -/
theorem setPanStoresClampedValue : Obligations.SetPanStoresClampedValue := by
  intro cam a s k p
  refine ⟨fun hlt hk hp => ?_, exec_setter_of_le (exec_setPan cam a s)⟩
  rw [eq_ofInt_clamp hp]
  exact exec_setter_of_lt (exec_setPan cam a s) hlt hk

/-- Settles O42, as O41 for the tilt register. -/
theorem setTiltStoresClampedValue : Obligations.SetTiltStoresClampedValue := by
  intro cam a s k p
  refine ⟨fun hlt hk hp => ?_, exec_setter_of_le (exec_setTilt cam a s)⟩
  rw [eq_ofInt_clamp hp]
  exact exec_setter_of_lt (exec_setTilt cam a s) hlt hk

/-- Settles O43, as O41 for the zoom register. -/
theorem setZoomStoresClampedValue : Obligations.SetZoomStoresClampedValue := by
  intro cam a s k p
  refine ⟨fun hlt hk hp => ?_, exec_setter_of_le (exec_setZoom cam a s)⟩
  rw [eq_ofInt_clamp hp]
  exact exec_setter_of_lt (exec_setZoom cam a s) hlt hk

/-- Settles O44: the same for the signed register, whose lower bound is -1. -/
theorem setFocusStoresClampedValue : Obligations.SetFocusStoresClampedValue := by
  intro cam a s k p
  refine ⟨fun hlt hk hp => ?_, exec_setter_of_le (exec_setFocus cam a s)⟩
  rw [eq_clampFocus hp]
  exact exec_setter_of_lt (exec_setFocus cam a s) hlt hk

/-! A setter, then an operation that reads what it stored (R119, spec/20_memory.md R64). -/

theorem State.storeCamera_getElem?_self {s : State} {c : Nat} (h : c < s.cs.length) (k : Camera) :
    (s.storeCamera c k).cs[c]? = some k :=
  List.getElem?_set_self h

/-- A setter that puts `x` into one register of a camera, then a getter of that camera. -/
theorem exec_setter_then_getter {i j : Instr} {s : State} {cam : Byte} {k : Camera} {n : Nat}
    {put : Camera → BitVec n → Camera} {x : BitVec n} {read : Camera → Word} {z : Int}
    (hset : exec i s = .next (s.updateCamera cam (put · x)))
    (hget : ∀ t, exec j t = .next (t.readCamera cam read))
    (hlt : cam.toNat < s.cfg.nCameras) (hk : s.cs[cam.toNat]? = some k)
    (hz : (read (put k x)).toInt = z) :
    ∃ t u v r, exec i s = .next t ∧ exec j t = .next u ∧ u.out.rsp = some v ∧ v.toInt = z ∧
      t.cs[cam.toNat]? = some (put k r) ∧ (∀ c : Nat, c ≠ cam.toNat → t.cs[c]? = s.cs[c]?) ∧
      t.out = { Outputs.quiet with rsp := some 0 } ∧ t.status = s.status := by
  obtain ⟨hmem, _⟩ := List.getElem?_eq_some_iff.mp hk
  have hstored := State.storeCamera_getElem?_self hmem (put k x)
  have ht := hset.trans (congrArg _ (State.updateCamera_of_getElem? hlt hk _))
  have hu := (hget (s.storeCamera cam.toNat (put k x))).trans
    (congrArg _ (State.readCamera_of_getElem? (s := s.storeCamera _ _) hlt hstored read))
  exact ⟨_, _, _, x, ht, hu, rfl, hz, hstored, fun c hne => List.getElem?_set_ne hne.symm, rfl, rfl⟩

/-- Settles O46: the value read back is the clamped one, register by register. -/
theorem settersThenGettersAnswerClamped : Obligations.SettersThenGettersAnswerClamped := by
  intro cam a s k hlt hk
  refine ⟨?_, ?_, ?_, ?_⟩
  · exact exec_setter_then_getter (put := fun k r => { k with pan := r }) (exec_setPan cam a s)
      (exec_getPan cam) hlt hk ((toInt_setWidth_register _).trans (toNat_ofInt_clamp _ _))
  · exact exec_setter_then_getter (put := fun k r => { k with tilt := r }) (exec_setTilt cam a s)
      (exec_getTilt cam) hlt hk ((toInt_setWidth_register _).trans (toNat_ofInt_clamp _ _))
  · exact exec_setter_then_getter (put := fun k r => { k with zoom := r }) (exec_setZoom cam a s)
      (exec_getZoom cam) hlt hk ((toInt_setWidth_register _).trans (toNat_ofInt_clamp _ _))
  · exact exec_setter_then_getter (put := fun k r => { k with focus := r }) (exec_setFocus cam a s)
      (exec_getFocus cam) hlt hk ((toInt_signExtend_focus _).trans (clampFocus_toInt_eq_max_min _ _))

/-- The stored focus is the auto value exactly for the negative operands (R82). -/
theorem clampFocus_eq_auto_iff (c : Config) (a : Word) :
    (clampFocus c a).toInt = -1 ↔ a.toInt < 0 := by
  rw [clampFocus_toInt_eq_max_min]
  omega

/-- The focus-mode byte is the fifth of the burst: an address byte and three body bytes come before it. -/
theorem absMoveBurst_focusMode (k : Camera) (c : Nat) :
    (absMoveBurst k c)[4]? = some (if k.focus.toInt = -1 then 0x02 else 0x03) := rfl

/-- `ABS_MOVE` sends the burst of the addressed camera's registers. -/
theorem exec_absMove_of_lt {s : State} {cam : Byte} (h : cam.toNat < s.cfg.nCameras) :
    exec (.absMove cam) s = .next (s.sendBurst (absMoveBurst (s.camera cam.toNat) cam.toNat)) :=
  (exec_absMove cam s).trans (congrArg _ (State.withCamera_of_lt h _))

/-- Settles O47: `ABS_MOVE` reads the clamped focus, which is -1 exactly when the operand was negative. -/
theorem setFocusSelectsModeOfNextAbsMove : Obligations.SetFocusSelectsModeOfNextAbsMove := by
  intro cam a s t hs hlt ht
  obtain ⟨_, hlen, _⟩ := hs
  rw [exec_setFocus, State.updateCamera, State.withCamera_of_lt hlt] at ht
  cases ht
  refine ⟨_, exec_absMove_of_lt hlt, ?_⟩
  have hstored := State.storeCamera_getElem?_self (hlen.symm ▸ hlt)
    { s.camera cam.toNat with focus := clampFocus s.cfg a }
  rw [State.camera_of_getElem? hstored, State.sendBurst_out, absMoveBurst_focusMode]
  simp only [clampFocus_eq_auto_iff]

end Sys2Proof.Machine
end

section
/-! The single-packet commands (spec/42_simple_commands.md R130 to R135). What any operation that answers
with a burst to one camera leaves, once for both camera ranges; then the bytes of each command's packet. -/

namespace Sys2Proof.Machine

/-! A sender: an operation that makes the camera check and then sends one burst. -/

theorem State.sendBurst_eq_afterBurst (s : State) (bytes : List Byte) :
    s.sendBurst bytes = s.afterBurst bytes := rfl

/-- The whole next state of a sender, for a camera that exists and for one out of range
(spec/42_simple_commands.md R135, spec/60_exceptions.md R192). -/
theorem exec_sender {i : Instr} {s : State} {cam : Byte} {burst : Nat → List Byte} {bytes : List Byte}
    (hexec : exec i s = .next (s.withCamera cam fun c => s.sendBurst (burst c)))
    (hbytes : burst cam.toNat = bytes) :
    (cam.toNat < s.cfg.nCameras → exec i s = .next (s.afterBurst bytes)) ∧
    (s.cfg.nCameras ≤ cam.toNat → exec i s = .next s.afterIllegalCam) := by
  constructor
  · intro hlt
    rw [hexec, State.withCamera_of_lt hlt, hbytes, State.sendBurst_eq_afterBurst]
  · intro hle
    rw [hexec, State.withCamera_of_le hle, State.raiseError_illegalCam]

theorem exec_blink (cam : Byte) (led mode : Word) (s : State) :
    exec (.blink cam led mode) s = .next
      (s.withCamera cam fun c => s.sendBurst (wrap [0x01, 0x33, lowByte led, lowByte mode] c)) := rfl

theorem exec_flip (cam : Byte) (t : Word) (s : State) :
    exec (.flip cam t) s = .next
      (s.withCamera cam fun c => s.sendBurst (wrap [0x01, 0x04, 0x66, onOff t] c)) := rfl

theorem exec_mirror (cam : Byte) (t : Word) (s : State) :
    exec (.mirror cam t) s = .next
      (s.withCamera cam fun c => s.sendBurst (wrap [0x01, 0x04, 0x61, onOff t] c)) := rfl

theorem exec_backlight (cam : Byte) (t : Word) (s : State) :
    exec (.backlight cam t) s = .next
      (s.withCamera cam fun c => s.sendBurst (wrap [0x01, 0x04, 0x33, 0x02, onOff t] c)) := rfl

theorem exec_motionDetect (cam : Byte) (t : Word) (s : State) :
    exec (.motionDetect cam t) s = .next
      (s.withCamera cam fun c => s.sendBurst (wrap [0x01, 0x50, 0x30, 0x01, flag01 t] c)) := rfl

/-! The bytes of a packet. -/

/-- A packet in bytes (R102, R103): the address byte wraps in 8 bits as the sum of the bytes does. -/
theorem wrap_toNat (body : List Byte) (cam : Byte) :
    wrap body cam.toNat = (0x81 + cam) :: (body ++ [0xFF]) := by
  rw [wrap, addrByte_toNat]
  rfl

/-- The on/off byte of R104 with its test turned round: 03 at zero. -/
theorem onOff_eq_ite (a : Word) : onOff a = if a = 0 then 0x03 else 0x02 := by
  by_cases h : a = 0 <;> simp [onOff, boolTrue, h]

/-- The flag byte of R104 with its test turned round: 00 at zero, so not the on/off byte (R80). -/
theorem flag01_eq_ite (a : Word) : flag01 a = if a = 0 then 0x00 else 0x01 := by
  by_cases h : a = 0 <;> simp [flag01, boolTrue, h]

/-- Settles O31: the operands' low bytes are their values modulo 256. -/
theorem blinkSendsOnePacket : Obligations.BlinkSendsOnePacket := fun cam a b s =>
  exec_sender (exec_blink cam a b s) (by rw [wrap_toNat, lowByte_eq, lowByte_eq]; rfl)

/-- Settles O32, by the packet's bytes and the on/off byte. -/
theorem flipSendsOnePacket : Obligations.FlipSendsOnePacket := fun cam a s =>
  exec_sender (exec_flip cam a s) (by rw [wrap_toNat, onOff_eq_ite]; rfl)

/-- Settles O33, by the packet's bytes and the on/off byte. -/
theorem mirrorSendsOnePacket : Obligations.MirrorSendsOnePacket := fun cam a s =>
  exec_sender (exec_mirror cam a s) (by rw [wrap_toNat, onOff_eq_ite]; rfl)

/-- Settles O34, by the packet's bytes and the on/off byte. -/
theorem backlightSendsOnePacket : Obligations.BacklightSendsOnePacket := fun cam a s =>
  exec_sender (exec_backlight cam a s) (by rw [wrap_toNat, onOff_eq_ite]; rfl)

/-- Settles O35, by the packet's bytes and the flag byte. -/
theorem motionDetectSendsOnePacket : Obligations.MotionDetectSendsOnePacket := fun cam a s =>
  exec_sender (exec_motionDetect cam a s) (by rw [wrap_toNat, flag01_eq_ite]; rfl)

end Sys2Proof.Machine
end

section
/-! The mode-plus-value commands (spec/43_parameter_commands.md R140 to R142): the bytes of the burst that
both send, for every command byte and manual mode; each command is a sender of its own instance. -/

namespace Sys2Proof.Machine

/-- The mode packet and the value packet of operand `v`, to camera `c`; the mode is 00 at the auto sentinel,
else `manual`. -/
def modeValueBurst (modeCmd manual valueCmd : Byte) (v : Word) (c : Nat) : List Byte :=
  wrap [0x01, 0x04, modeCmd, if isAuto v then 0x00 else manual] c
    ++ wrap ([0x01, 0x04, valueCmd] ++ toNibbles v.toInt) c

theorem exec_whiteBalance (cam : Byte) (v : Word) (s : State) :
    exec (.whiteBalance cam v) s = .next
      (s.withCamera cam fun c => s.sendBurst (modeValueBurst 0x35 0x06 0x75 v c)) := rfl

theorem exec_iris (cam : Byte) (v : Word) (s : State) :
    exec (.iris cam v) s = .next
      (s.withCamera cam fun c => s.sendBurst (modeValueBurst 0x39 0x03 0x4B v c)) := rfl

/-- The auto sentinel is every negative operand, not -1 alone (R142). -/
theorem isAuto_iff (a : Word) : isAuto a = true ↔ a.toInt < 0 := by
  rw [isAuto, decide_eq_true_iff]
  omega

/-- The burst in bytes: both packets are always there, and the nibbles are those of the operand itself, at
the auto sentinel too (R140, R141). -/
theorem modeValueBurst_toNat (modeCmd manual valueCmd : Byte) (a : Word) (cam : Byte) :
    modeValueBurst modeCmd manual valueCmd a cam.toNat =
      [0x81 + cam, 0x01, 0x04, modeCmd, if a.toInt < 0 then 0x00 else manual, 0xFF,
        0x81 + cam, 0x01, 0x04, valueCmd] ++ toNibbles a.toInt ++ [0xFF] := by
  simp only [modeValueBurst, wrap_toNat, isAuto_iff]
  rfl

/-- Settles O36: a sender of the burst with mode 06 for a manual value. -/
theorem whiteBalanceSendsModeAndValue : Obligations.WhiteBalanceSendsModeAndValue := fun cam a s =>
  exec_sender (exec_whiteBalance cam a s) (modeValueBurst_toNat 0x35 0x06 0x75 a cam)

/-- Settles O37: a sender of the burst with mode 03 for a manual value. -/
theorem irisSendsModeAndValue : Obligations.IrisSendsModeAndValue := fun cam a s =>
  exec_sender (exec_iris cam a s) (modeValueBurst_toNat 0x39 0x03 0x4B a cam)

end Sys2Proof.Machine
end

section
/-! The motion commands (spec/44_motion_commands.md R150 to R157): both are senders. The burst of
`ABS_MOVE` depends on the addressed camera's registers, so that camera has to be in the register file. -/

namespace Sys2Proof.Machine

theorem exec_relMove (cam : Byte) (dx dy : Word) (s : State) :
    exec (.relMove cam dx dy) s = .next (s.withCamera cam fun c => s.sendBurst
      (wrap [0x01, 0x06, 0x01, 0x00, 0x00, 0x03, 0x03] c
        ++ wrap [0x01, 0x06, 0x01, speed dx.toInt, speed dy.toInt, dir dx.toInt, dir dy.toInt] c)) := rfl

/-- Settles O38: a sender of two packets, the fixed one and the one computed from the operands. -/
theorem relMoveSendsSpeedsAndDirections : Obligations.RelMoveSendsSpeedsAndDirections :=
  fun cam a b s => exec_sender (exec_relMove cam a b s) (by rw [wrap_toNat, wrap_toNat]; rfl)

/-- The three packets in bytes: the position's nibbles follow the third header without a gap (R155). -/
theorem absMoveBurst_toNat (k : Camera) (cam : Byte) :
    absMoveBurst k cam.toNat =
      [0x81 + cam, 0x01, 0x04, 0x38, if k.focus.toInt = -1 then 0x02 else 0x03, 0xFF,
        0x81 + cam, 0x01, 0x06, 0x01, 0x03, 0x03, 0x03, 0x03, 0xFF,
        0x81 + cam, 0x01, 0x06, 0x20] ++ toNibbles k.pan.toNat ++ toNibbles k.tilt.toNat
        ++ toNibbles k.zoom.toNat ++ toNibbles k.focus.toInt ++ [0xFF] := by
  simp only [absMoveBurst, wrap_toNat]
  rfl

/-- Settles O39: a sender of the burst of the registers that the file holds for the camera. -/
theorem absMoveSendsTheCachedPosition : Obligations.AbsMoveSendsTheCachedPosition := by
  intro cam s k
  obtain ⟨hsends, hillegal⟩ := exec_sender (exec_absMove cam s) rfl
  refine ⟨fun hlt hk => ?_, hillegal⟩
  rw [hsends hlt, State.camera_of_getElem? hk, absMoveBurst_toNat]

end Sys2Proof.Machine
end

section
/-! The inquiry (spec/45_inquiry.md R165): no operand and no camera check, so it answers the same way in
every state. -/

namespace Sys2Proof.Machine

theorem exec_inquireAll (s : State) :
    exec .inquireAll s = .next (s.sendBurst (inquiryBurst s.cfg.nCameras)) := rfl

/-- Settles O40: the one effect is the burst, and by `inquiryBurst_eq`, an induction on the number of
cameras, the burst is the packets in ascending order. -/
theorem inquireAllAsksEveryCamera : Obligations.InquireAllAsksEveryCamera := by
  intro s
  rw [exec_inquireAll, State.sendBurst_eq_afterBurst, inquiryBurst_eq]

end Sys2Proof.Machine
end

section
/-! The FrameAssembler (spec/46_frame_assembler.md R170 to R182): the state each row of its table leaves, in
the statements' terms; from them the shape of every frame handed over, and by induction on the payload the
round trip of a frame that fits. -/

namespace Sys2Proof.Machine

/-! One received byte. -/

theorem exec_rxStart (s : State) : exec .rxStart s = .next (s.rxByte startByte) := rfl

theorem exec_rxTerm (s : State) : exec .rxTerm s = .next (s.rxByte termByte) := rfl

theorem exec_rxData (b : Byte) (s : State) : exec (.rxData b) s = .next (s.rxByte b) := rfl

theorem State.finish_quiet (s : State) : s.finish .quiet = s.afterQuiet := s.finish_of_tx_nil rfl

/-- Settles O49: the test for the start marker comes before the state and the room are looked at. -/
theorem startMarkerStartsFrame : Obligations.StartMarkerStartsFrame := by
  intro s
  rw [exec_rxStart, State.rxByte_start, State.finish_quiet]
  rfl

/-- Settles O50: `Idle` has one row for every byte but the start marker. -/
theorem idleDiscardsOtherBytes : Obligations.IdleDiscardsOtherBytes := by
  intro s b hrx
  have hdiscard {b : Byte} (hb : b ≠ 0x90) : s.rxByte b = s.afterQuiet :=
    (State.rxByte_of_idle hb hrx).trans s.finish_quiet
  exact ⟨congrArg _ (hdiscard (by decide)), fun hb => congrArg _ (hdiscard hb)⟩

/-- Settles O51: the payload row of `Receiving`. -/
theorem dataByteIsAppended : Obligations.DataByteIsAppended := by
  intro s b hrx hlt hb
  rw [exec_rxData, State.rxByte_payload hb hrx hlt.ne, State.finish_quiet]
  rfl

/-- Settles O52: the test for a full buffer comes before the test for the terminator, so the terminator and
every other byte meet the same row. -/
theorem fullBufferOverflows : Obligations.FullBufferOverflows := by
  intro s b hrx hfull hb t
  have hoverflow {b : Byte} (hb : b ≠ 0x90) : s.rxByte b = t :=
    (State.rxByte_of_full hb hrx hfull).trans
      ((s.toIdle.setStatus .rxOverflow).finish_of_tx_nil rfl)
  exact ⟨congrArg _ (hoverflow (by decide)), congrArg _ (hoverflow hb)⟩

/-- A received byte gives no response and reports no error but `RxOverflow` (spec/46_frame_assembler.md
R170, R176). -/
theorem State.rxByte_rsp_err (s : State) (b : Byte) :
    (s.rxByte b).out.rsp = none ∧
    ((s.rxByte b).out.err = none ∨ (s.rxByte b).out.err = some .rxOverflow) := by
  rcases s.rxByte_cases b with ⟨_, h⟩ | ⟨_, _, h⟩ | ⟨_, _, _, h⟩ | ⟨_, _, _, h⟩ | ⟨_, _, _, h⟩ <;>
    simp [h, BlockError.response]

/-- Settles O20: `status` is or-ed with the bit of the reported error, which is none or `RxOverflow`. -/
theorem receivedBytesTouchOnlyAssemblerAndOverflowBit :
    Obligations.ReceivedBytesTouchOnlyAssemblerAndOverflowBit := by
  intro i s t hrx h
  obtain ⟨b, hexec⟩ := exec_of_isRxByte hrx s
  cases hexec.symm.trans h
  obtain ⟨_, hcs, hlastPoll, _, htxSink, _, hstatus⟩ := s.rxByte_frame b
  obtain ⟨hrsp, herr⟩ := s.rxByte_rsp_err b
  have htx := s.rxByte_tx b
  refine ⟨htx, by rw [htxSink, htx, List.append_nil], hrsp, hcs, hlastPoll, ?_⟩
  rw [hstatus]
  exact herr.imp (fun hnone => by simp [Outputs.raised, hnone])
    (fun hovf => by simp [Outputs.raised, hovf, BlockError.statusBit])

/-! The frame handed over (R177, R178). -/

/-- The frame of the bytes `l`: its length is theirs, and the forward flag is low for the echo frame
alone. -/
def Frame.ofBytes (l : List Byte) : Frame where
  bytes := l
  len := l.length
  fwd := decide (l ≠ [0x90, 0x50, 0xFF])

/-- The reply filter's test of the length follows from its test of the bytes. -/
theorem forwards_length (l : List Byte) : forwards l l.length = decide (l ≠ [0x90, 0x50, 0xFF]) := by
  have hlen : l = [0x90, 0x50, 0xFF] → l.length = 3 := congrArg List.length
  simpa [forwards] using fun hne h => hne (hlen h)

theorem State.frameOf_eq_ofBytes {s : State} (h : s.rxIdx ≤ s.rxbuf.length) :
    s.frameOf = Frame.ofBytes (s.rxbuf.take s.rxIdx) := by
  have hlen : (s.rxbuf.take s.rxIdx).length = s.rxIdx := List.length_take_of_le h
  simp only [State.frameOf, Frame.ofBytes, ← forwards_length, hlen]

/-- The terminator in `Receiving` with room hands over the bytes held so far and itself. -/
theorem State.rxByte_term_of_lt {s : State} (hs : s.shaped) (hrx : s.rxState = .receiving)
    (hlt : s.rxIdx < s.cfg.rxCap) :
    s.rxByte termByte = { s with
      rxState := .idle, rxIdx := 0, rxbuf := s.rxbuf.set s.rxIdx 0xFF
      out := { Outputs.quiet with
        frame := some (Frame.ofBytes (s.rxbuf.take s.rxIdx ++ [0xFF])) } } := by
  obtain ⟨_, _, hbuf⟩ := hs
  have hroom : s.rxIdx < s.rxbuf.length := hbuf ▸ hlt
  have hframe : (s.appendByte termByte).frameOf = Frame.ofBytes (s.rxbuf.take s.rxIdx ++ [0xFF]) := by
    rw [State.frameOf_eq_ofBytes (by simpa using hroom), State.appendByte_rxbuf,
      State.appendByte_rxIdx, take_succ_set hroom]
  rw [State.rxByte_term hrx hlt.ne, State.completeFrame, hframe, State.finish_of_tx_nil _ rfl]
  rfl

/-- Settles O53: the frame of `rxByte_term_of_lt`, whose bytes are `rx_idx` and one more. -/
theorem terminatorHandsOverTheFrame : Obligations.TerminatorHandsOverTheFrame := by
  intro s hs hrx hlt
  have ⟨_, _, hbuf⟩ := hs
  have hlen : (s.rxbuf.take s.rxIdx ++ [(0xFF : Byte)]).length = s.rxIdx + 1 := by
    have hroom : s.rxIdx < s.rxbuf.length := hbuf ▸ hlt
    rw [List.length_append, List.length_take_of_le hroom.le, List.length_singleton]
  rw [exec_rxTerm, State.rxByte_term_of_lt hs hrx hlt, Frame.ofBytes, hlen]
  rfl

/-- The assembler of a shaped block is receiving and holds exactly the bytes `held`. -/
abbrev State.holds (s : State) (held : List Byte) : Prop :=
  s.shaped ∧ s.rxState = .receiving ∧ s.rxIdx = held.length ∧ s.rxbuf.take s.rxIdx = held

theorem State.rxByte_term_of_holds {s : State} {held : List Byte} (h : s.holds held)
    (hfits : held.length < s.cfg.rxCap) :
    (s.rxByte termByte).out = { Outputs.quiet with frame := some (.ofBytes (held ++ [0xFF])) } ∧
    (s.rxByte termByte).rxState = .idle ∧ (s.rxByte termByte).rxIdx = 0 := by
  obtain ⟨hs, hrx, hidx, hheld⟩ := h
  rw [State.rxByte_term_of_lt hs hrx (hidx ▸ hfits), hheld]
  exact ⟨rfl, rfl, rfl⟩

/-- Only the terminator in `Receiving` with room hands over a frame. -/
theorem State.eq_term_of_rxByte_frame {s : State} {b : Byte} {f : Frame}
    (h : (s.rxByte b).out.frame = some f) :
    b = termByte ∧ s.rxState = .receiving ∧ s.rxIdx ≠ s.cfg.rxCap := by
  rcases s.rxByte_cases b with ⟨_, heq⟩ | ⟨_, _, heq⟩ | ⟨_, _, _, heq⟩ | ⟨hb, hrx, hfull, _⟩ |
    ⟨_, _, _, heq⟩
  case inr.inr.inr.inl => exact ⟨hb, hrx, hfull⟩
  all_goals simp [heq] at h

/-- A step that hands over a frame took a received byte. -/
theorem exists_rxByte_of_step_frame {s t : State} {f : Frame} (h : step s = .next t)
    (hf : t.out.frame = some f) : ∃ rest b, t = { s with inbox := rest }.rxByte b := by
  obtain ⟨_, ⟨_, rfl⟩ | ⟨_, rest, i, _, _, hexec⟩ | ⟨_, _, _, _, _, rfl⟩⟩ := step_cases h
  · cases hf
  · cases hrx : isRxByte i with
    | true =>
      obtain ⟨b, hb⟩ := exec_of_isRxByte hrx { s with inbox := rest }
      exact ⟨rest, b, Host.Outcome.next.inj (hexec.symm.trans hb)⟩
    | false =>
      obtain ⟨hnone, _⟩ := onlyReceivedBytesAndResetTouchAssembler i _ t hrx hexec
      cases hnone.symm.trans hf
  · cases hf

/-- The partial frame of the invariant is a start marker and payload (spec/10_state.md R28). -/
theorem State.holds_of_assemblerOk {s : State} (hs : s.shaped) (ha : s.assemblerOk)
    (hrx : s.rxState = .receiving) :
    ∃ payload, s.holds (0x90 :: payload) ∧ ∀ b ∈ payload, isPayload b := by
  have ⟨_, _, hbuf⟩ := hs
  obtain ⟨hidx, hle, hstart, hpayload⟩ := ha.2 hrx
  have hhead : (s.rxbuf.take s.rxIdx)[0]? = some 0x90 := by
    rw [List.getElem?_take_of_lt (by omega), hstart]
  have hlen : (s.rxbuf.take s.rxIdx).length = s.rxIdx := List.length_take_of_le (hbuf ▸ hle)
  cases hheld : s.rxbuf.take s.rxIdx with
  | nil => simp [hheld] at hhead
  | cons x payload =>
    rw [hheld] at hhead hpayload hlen
    cases hhead
    exact ⟨payload, ⟨hs, hrx, hlen.symm, hheld⟩, hpayload⟩

/-- Settles O54: the frame is the partial frame of the invariant and the terminator. -/
theorem deliveredFramesAreDelimited : Obligations.DeliveredFramesAreDelimited := by
  intro s t f ⟨hs, _, ha⟩ hstep hf
  obtain ⟨rest, b, rfl⟩ := exists_rxByte_of_step_frame hstep hf
  obtain ⟨rfl, hrx, hfull⟩ := State.eq_term_of_rxByte_frame hf
  obtain ⟨payload, hholds, hpayload⟩ := State.holds_of_assemblerOk hs ha hrx
  obtain ⟨_, hle, _⟩ := ha.2 hrx
  have ⟨_, _, hidx, _⟩ := hholds
  have hfits : (0x90 :: payload).length < s.cfg.rxCap := hidx ▸ lt_of_le_of_ne hle hfull
  obtain ⟨hout, hdone⟩ := State.rxByte_term_of_holds (s := { s with inbox := rest }) hholds hfits
  rw [hout] at hf
  cases hf
  refine ⟨⟨payload, rfl, hpayload⟩, rfl, ?_, ?_, decide_eq_false_iff_not.trans not_not, hdone⟩
  · simp [Frame.ofBytes]
  · simpa [Frame.ofBytes] using hfits

/-! The round trip (R181). -/

theorem State.startFrame_holds {s : State} (hs : s.shaped) : s.startFrame.holds [0x90] := by
  obtain ⟨⟨hmin, hmax, hcap⟩, hcs, hbuf⟩ := hs
  exact ⟨⟨⟨hmin, hmax, hcap⟩, hcs, by simpa using hbuf⟩, rfl, rfl,
    take_succ_set (n := 0) (by omega) startByte⟩

theorem State.appendByte_holds {s : State} {held : List Byte} (h : s.holds held)
    (hfits : held.length < s.cfg.rxCap) (b : Byte) : (s.appendByte b).holds (held ++ [b]) := by
  obtain ⟨⟨hlegal, hcs, hbuf⟩, hrx, hidx, hheld⟩ := h
  refine ⟨⟨hlegal, hcs, by simpa using hbuf⟩, hrx, by simp [hidx], ?_⟩
  rw [State.appendByte_rxbuf, State.appendByte_rxIdx, take_succ_set (by omega), hheld]

/-- A received byte runs by its value, whatever its class (spec/30_encoding.md R84). -/
theorem exec_decodeRxByte (b : Byte) (s : State) : exec (decodeRxByte b) s = .next (s.rxByte b) := by
  by_cases hstart : b = startByte
  · exact hstart ▸ exec_rxStart s
  by_cases hterm : b = termByte
  · exact hterm ▸ exec_rxTerm s
  rw [decodeRxByte_of_isPayload ⟨hstart, hterm⟩]
  exact exec_rxData b s

theorem step_rxByte {s : State} {b : Byte} {rest : List Event} (hs : s.shaped)
    (hin : s.inbox = .rxByte b :: rest) : step s = .next ({ s with inbox := rest }.rxByte b) :=
  (stepRunsDecodedOperation s (.rxByte b) rest (decodeRxByte b) hs hin rfl).trans
    (exec_decodeRxByte b _)

/-- A start marker is quiet, and held alone afterwards (R172, R174). -/
theorem step_start {s : State} {rest : List Event} (hs : s.shaped)
    (hin : s.inbox = .rxByte 0x90 :: rest) :
    ∃ r, step s = .next r ∧ r.out = .quiet ∧ r.holds [0x90] ∧ r.cfg = s.cfg ∧ r.inbox = rest :=
  ⟨_, (step_rxByte hs hin).trans (congrArg _ (State.rxByte_start _)), rfl,
    State.startFrame_holds (s := { s with inbox := rest }) hs, rfl, rfl⟩

/-- A payload byte that fits is quiet, and held last afterwards (R175). -/
theorem step_payload {s : State} {held : List Byte} {b : Byte} {rest : List Event} (h : s.holds held)
    (hb : isPayload b) (hfits : held.length < s.cfg.rxCap) (hin : s.inbox = .rxByte b :: rest) :
    ∃ r, step s = .next r ∧ r.out = .quiet ∧ r.holds (held ++ [b]) ∧ r.cfg = s.cfg ∧
      r.inbox = rest := by
  have ⟨hs, hrx, hidx, _⟩ := h
  have hroom : s.rxIdx ≠ s.cfg.rxCap := by omega
  exact ⟨_, (step_rxByte hs hin).trans (congrArg _ (State.rxByte_payload hb hrx hroom)), rfl,
    State.appendByte_holds (s := { s with inbox := rest }) h hfits b, rfl, rfl⟩

/-- A terminator that fits hands over what is held and itself (R177). -/
theorem step_term {s : State} {held : List Byte} {rest : List Event} (h : s.holds held)
    (hfits : held.length < s.cfg.rxCap) (hin : s.inbox = .rxByte 0xFF :: rest) :
    ∃ r, step s = .next r ∧
      r.out = { Outputs.quiet with frame := some (.ofBytes (held ++ [0xFF])) } ∧
      r.rxState = .idle ∧ r.rxIdx = 0 ∧ r.inbox = rest := by
  obtain ⟨hout, hidle, hidx⟩ :=
    State.rxByte_term_of_holds (s := { s with inbox := rest }) h hfits
  obtain ⟨_, _, _, hinbox, _⟩ := State.rxByte_frame { s with inbox := rest } termByte
  exact ⟨_, step_rxByte h.1 hin, hout, hidle, hidx, hinbox⟩

/-- `n` steps from `s` give the outputs `outs`, one each, and end in `t`. -/
abbrev State.emits (s : State) (n : Nat) (outs : List Outputs) (t : State) : Prop :=
  s.trace n = outs ∧ core.run n s = .next t

theorem State.emits_zero (s : State) : s.emits 0 [] s := ⟨rfl, rfl⟩

theorem State.emits_succ {s r t : State} {n : Nat} {o : Outputs} {outs : List Outputs}
    (hstep : step s = .next r) (hout : r.out = o) (h : r.emits n outs t) :
    s.emits (n + 1) (o :: outs) t := by
  obtain ⟨htrace, hrun⟩ := h
  have hcore : core.step s = .next r := hstep
  exact ⟨by rw [State.trace_succ_of_next hstep, hout, htrace],
    by simp only [Host.Core.run, hcore, hrun]⟩

/-- Payload that fits and the terminator complete the frame that `held` begins, on the last byte. -/
theorem State.emits_frame_of_holds {rest : List Event} (payload : List Byte) :
    ∀ (s : State) (held : List Byte), s.holds held → (∀ b ∈ payload, isPayload b) →
      held.length + payload.length < s.cfg.rxCap →
      s.inbox = (payload ++ [0xFF]).map Event.rxByte ++ rest →
      ∃ t, s.emits (payload.length + 1)
          (List.replicate payload.length .quiet ++
            [{ Outputs.quiet with frame := some (.ofBytes (held ++ payload ++ [0xFF])) }]) t ∧
        t.rxState = .idle ∧ t.rxIdx = 0 ∧ t.inbox = rest := by
  induction payload with
  | nil =>
    intro s held hholds _ hfits hin
    obtain ⟨r, hstep, hout, hdone⟩ := step_term hholds hfits hin
    rw [List.append_nil]
    exact ⟨r, State.emits_succ hstep hout r.emits_zero, hdone⟩
  | cons b payload ih =>
    intro s held hholds hpayload hfits hin
    obtain ⟨hb, hpayload⟩ := List.forall_mem_cons.mp hpayload
    rw [List.length_cons] at hfits
    obtain ⟨r, hstep, hout, hholds, hcfg, hinbox⟩ := step_payload hholds hb (by omega) hin
    obtain ⟨t, hemits, hdone⟩ := ih r (held ++ [b]) hholds hpayload
      (by rw [hcfg, List.length_append, List.length_singleton]; omega) hinbox
    rw [List.append_assoc held [b]] at hemits
    exact ⟨t, State.emits_succ hstep hout hemits, hdone⟩

/-- A delimited frame is the echo frame exactly when its payload is the one byte 0x50. -/
theorem Frame.ofBytes_delimited (payload : List Byte) :
    Frame.ofBytes (0x90 :: payload ++ [0xFF]) =
      { bytes := 0x90 :: payload ++ [0xFF]
        len := payload.length + 2
        fwd := decide (payload ≠ [0x50]) } := by
  have hecho : 0x90 :: payload ++ [0xFF] = [0x90, 0x50, 0xFF] ↔ payload = [0x50] :=
    (List.append_left_inj (s₂ := [0x90, 0x50]) [0xFF]).trans (List.cons_inj_right 0x90)
  simp only [Frame.ofBytes, ne_eq, hecho, List.length_append, List.length_cons, List.length_nil]

/-- Settles O55: the start marker makes the block hold that byte, and `emits_frame_of_holds`, an induction
on the payload, does the rest. -/
theorem assemblerRoundTrip : Obligations.AssemblerRoundTrip := by
  intro s payload rest hs _ hpayload hfits hin
  obtain ⟨r, hstep, hout, hholds, hcfg, hinbox⟩ := step_start hs hin
  obtain ⟨t, hemits, hdone⟩ := r.emits_frame_of_holds payload [0x90] hholds hpayload
    (by rw [hcfg, List.length_singleton]; omega) hinbox
  obtain ⟨htrace, hrun⟩ := State.emits_succ hstep hout hemits
  rw [List.singleton_append, Frame.ofBytes_delimited] at htrace
  exact ⟨htrace, t, hrun, hdone⟩

end Sys2Proof.Machine
end

section
/-! The step by its input (spec/60_exceptions.md R191, R213; notes/assumptions/10.md): no event, an event
that is an operation, and a request with an unassigned code each have a next state. -/

namespace Sys2Proof.Machine

/-- Settles O10: with no event offered the outputs become quiet, and nothing is transmitted. -/
theorem stepWithoutEventIsQuiet : Obligations.StepWithoutEventIsQuiet := by
  intro s hs hin
  rw [step_of_nil hs hin, State.idle, State.finish_quiet]

/-- A shaped state has a next state, whatever the first event offered. -/
theorem exists_step_of_shaped {s : State} (hs : s.shaped) : ∃ t, step s = .next t := by
  cases hin : s.inbox with
  | nil => exact ⟨_, step_of_nil hs hin⟩
  | cons e rest =>
    cases hd : decode e with
    | ok i =>
      obtain ⟨t, ht⟩ := exec_next i { s with inbox := rest }
      exact ⟨t, (stepRunsDecodedOperation s e rest i hs hin hd).trans ht⟩
    | error r =>
      cases r with
      | illegalOp op => exact ⟨_, step_of_unassigned hs hin hd⟩

theorem step_of_not_shaped {s : State} (hs : ¬ s.shaped) : step s = .fault .malformedState :=
  if_neg hs

/-- Settles O11: a step that answers started in a shaped state, and every shaped state answers. -/
theorem stepAnswersInEveryShapedState : Obligations.StepAnswersInEveryShapedState := by
  intro s
  refine ⟨⟨?_, exists_step_of_shaped⟩, step_of_not_shaped⟩
  rintro ⟨t, h⟩
  obtain ⟨hs, _⟩ := step_cases h
  exact hs

theorem decodeRequest_of_unassigned {w : BitVec 80} (hop : unassigned (reqOp w)) :
    decodeRequest w = .error (.illegalOp (reqOp w)) := by
  rcases decodeRequest_cases w with ⟨hassigned, _⟩ | ⟨_, herror⟩
  · exact absurd hop hassigned
  · exact herror

/-- Settles O9: the decoder refuses the code, and taking the error transmits nothing. -/
theorem unassignedOpRaisesIllegalOp : Obligations.UnassignedOpRaisesIllegalOp := by
  intro s w rest hs hin hop
  refine ⟨?_, rfl⟩
  rw [step_of_unassigned hs hin (decodeRequest_of_unassigned hop), State.raiseError,
    State.finish_of_tx_nil _ rfl]
  rfl

end Sys2Proof.Machine
end

section
/-! The three errors (spec/60_exceptions.md R190, R192): which state each leaves, once for every event. -/

namespace Sys2Proof.Machine

/-- Settles O24: every operation with a camera operand makes the camera check first. -/
theorem outOfRangeCameraRaisesIllegalCam : Obligations.OutOfRangeCameraRaisesIllegalCam := by
  intro i cam s hcam hle
  obtain ⟨effect, hexec, _⟩ := exec_of_cameraOf hcam s
  refine ⟨?_, rfl⟩
  rw [hexec, State.withCamera_of_le hle, State.raiseError_illegalCam]

/-- Error `x` takes `s` to `t` (spec/60_exceptions.md R190 to R193). -/
inductive Raises (s t : State) (x : BlockError) : Prop
  /-- An error of a `CMD`. -/
  | command (hx : x ≠ .rxOverflow) (ht : t = s.raiseError x)
  /-- A byte for a full buffer. -/
  | overflow (hx : x = .rxOverflow) (hrx : s.rxState = .receiving) (hfull : s.rxIdx = s.cfg.rxCap)
      (ht : t = s.toIdle.raiseError x)

/-- The one row of the FrameAssembler's table that reports an error is the full buffer's (R176). -/
theorem State.raises_of_rxByte {s : State} {b : Byte} {x : BlockError}
    (herr : (s.rxByte b).out.err = some x) : Raises s (s.rxByte b) x := by
  rcases s.rxByte_cases b with ⟨_, h⟩ | ⟨_, _, h⟩ | ⟨_, hrx, hfull, h⟩ | ⟨_, _, _, h⟩ | ⟨_, _, _, h⟩
  case inr.inr.inl =>
    rw [h] at herr ⊢
    cases herr
    exact .overflow rfl hrx hfull rfl
  all_goals simp [h] at herr

/-- An operation that reports an error has taken it, and done nothing else. -/
theorem raises_of_exec {i : Instr} {s t : State} {x : BlockError} (h : exec i s = .next t)
    (herr : t.out.err = some x) : Raises s t x := by
  cases effect_of_exec h with
  | outputs o hplain => cases hplain.2.symm.trans herr
  | illegalCam =>
    cases herr
    exact .command nofun rfl
  | store cam f => cases herr
  | receive b _ => exact State.raises_of_rxByte herr
  | poll now => cases herr
  | reset => cases herr

/-- A step that reports an error has taken its event and the error. -/
theorem raises_of_step {s t : State} {x : BlockError} (h : step s = .next t)
    (herr : t.out.err = some x) : ∃ rest, Raises { s with inbox := rest } t x := by
  obtain ⟨_, ⟨_, rfl⟩ | ⟨_, rest, i, _, _, hexec⟩ | ⟨_, rest, _, _, _, rfl⟩⟩ := step_cases h
  · cases herr
  · exact ⟨rest, raises_of_exec hexec herr⟩
  · cases herr
    exact ⟨rest, .command nofun rfl⟩

/-- Settles O23: taking an error writes `status` and the outputs, and an overflow resets the assembler
besides. -/
theorem errorsChangeNothingElse : Obligations.ErrorsChangeNothingElse := by
  intro s t x h herr
  obtain ⟨rest, hraises⟩ := raises_of_step h herr
  cases hraises with
  | command hx ht =>
    rw [ht]
    exact ⟨rfl, rfl, State.raiseError_txSink _ x, rfl, rfl, rfl, rfl, fun _ => ⟨rfl, rfl⟩,
      fun hovf => absurd hovf hx⟩
  | overflow hx hrx hfull ht =>
    rw [ht]
    exact ⟨rfl, rfl, State.raiseError_txSink _ x, rfl, rfl, rfl, rfl, fun hcmd => absurd hx hcmd,
      fun _ => ⟨rfl, rfl, hrx, hfull⟩⟩

end Sys2Proof.Machine
end

section
/-! The poll (spec/60_exceptions.md R205 to R208). A poll check that transmits has fired and re-armed; a
block with a camera keeps the poll time until the next one that does. -/

namespace Sys2Proof.Machine

/-- The time since the last trigger in plain arithmetic, the wrap of the counter written out (R206,
R207(c)). -/
theorem State.elapsed_eq (s : State) (now : Word) :
    s.elapsed now = (now.toNat + 2 ^ 32 - s.lastPoll.toNat) % 2 ^ 32 := by
  have hlast := s.lastPoll.isLt
  rw [State.elapsed, BitVec.toNat_sub]
  congr 1
  omega

/-- Settles O56: the two cases of a poll check, in the statement's terms. -/
theorem pollCheckFiresWhenIntervalElapsed : Obligations.PollCheckFiresWhenIntervalElapsed := by
  intro now s
  rw [← State.elapsed_eq]
  constructor
  · intro hle
    rw [exec_pollCheck_of_le hle, inquiryBurst_eq]
    rfl
  · intro hlt
    rw [exec_pollCheck_of_lt hlt, State.finish_quiet]

theorem inquiryBurst_eq_nil_iff (n : Nat) : inquiryBurst n = [] ↔ n = 0 := by
  rw [← List.length_eq_zero_iff, inquiryBurst_length]
  omega

/-- A poll check that transmits found the interval elapsed, in a block with a camera, and re-armed. -/
theorem fires_of_pollCheck_tx {s t : State} {now : Word} (h : exec (.pollCheck now) s = .next t)
    (htx : t.out.tx ≠ []) :
    s.cfg.pollIntervalMs ≤ s.elapsed now ∧ s.cfg.nCameras ≠ 0 ∧ t.cfg = s.cfg ∧ t.lastPoll = now := by
  rcases Nat.lt_or_ge (s.elapsed now) s.cfg.pollIntervalMs with hlt | hle
  · cases (exec_pollCheck_of_lt hlt).symm.trans h
    exact absurd rfl htx
  · cases (exec_pollCheck_of_le hle).symm.trans h
    exact ⟨hle, (inquiryBurst_eq_nil_iff _).not.mp htx, rfl, rfl⟩

/-- In a block with a camera, a poll check that transmits nothing has not fired, and keeps the poll time. -/
theorem lastPoll_of_pollCheck_tx_nil {s t : State} {now : Word}
    (h : exec (.pollCheck now) s = .next t) (htx : t.out.tx = []) (hcam : s.cfg.nCameras ≠ 0) :
    t.lastPoll = s.lastPoll := by
  rcases Nat.lt_or_ge (s.elapsed now) s.cfg.pollIntervalMs with hlt | hle
  · cases (exec_pollCheck_of_lt hlt).symm.trans h
    rfl
  · cases (exec_pollCheck_of_le hle).symm.trans h
    exact absurd ((inquiryBurst_eq_nil_iff _).mp htx) hcam

/-- In a block with a camera, an operation that is neither `RESET` nor a poll check that transmits keeps the
poll time. -/
theorem exec_lastPoll_of_untriggered {i : Instr} {s t : State} (h : exec i s = .next t)
    (hreset : i ≠ .reset) (hpoll : ∀ now, i = .pollCheck now → t.out.tx = [])
    (hcam : s.cfg.nCameras ≠ 0) : t.lastPoll = s.lastPoll := by
  by_cases hcheck : ∃ now, i = .pollCheck now
  · obtain ⟨now, rfl⟩ := hcheck
    exact lastPoll_of_pollCheck_tx_nil h (hpoll now rfl) hcam
  · exact onlyPollCheckAndResetWriteLastPoll i s t h hreset (not_exists.mp hcheck)

/-- A run without a reset and without a poll burst keeps the parameters and the poll time. Without a camera
it need not: a poll check then re-arms and transmits nothing. -/
theorem UntriggeredRun.cfg_lastPoll {s t : State} (h : UntriggeredRun s t)
    (hcam : s.cfg.nCameras ≠ 0) : t.cfg = s.cfg ∧ t.lastPoll = s.lastPoll := by
  induction h with
  | done s => exact ⟨rfl, rfl⟩
  | @operation s r t i hexec hreset hpoll _ ih =>
    obtain ⟨hcfg, _, _⟩ := operationsLeaveParametersAndArrivals i s r hexec
    obtain ⟨hcfg', hlast'⟩ := ih (hcfg ▸ hcam)
    exact ⟨hcfg'.trans hcfg, hlast'.trans (exec_lastPoll_of_untriggered hexec hreset hpoll hcam)⟩
  | unassignedOp _ ih => exact ih hcam
  | noEvent _ ih => exact ih hcam
  | arrivals es _ ih => exact ih hcam

/-- Settles O57: the first burst sets the poll time to its `now`, the run keeps it, and the second burst is
at least the interval after it. -/
theorem pollBurstsAreAnIntervalApart : Obligations.PollBurstsAreAnIntervalApart := by
  intro s t u v now now' hfirst htx hrun hsecond htx'
  obtain ⟨_, hcam, hcfg, hlast⟩ := fires_of_pollCheck_tx hfirst htx
  obtain ⟨hcfg', hlast'⟩ := hrun.cfg_lastPoll (hcfg ▸ hcam)
  obtain ⟨helapsed, _⟩ := fires_of_pollCheck_tx hsecond htx'
  rwa [State.elapsed_eq, hcfg', hcfg, hlast', hlast] at helapsed

end Sys2Proof.Machine
end

section
/-! The reset (spec/70_reset_and_hazards.md R220): the values of spec/10_state.md R37 fix each camera's four
registers. -/

namespace Sys2Proof.Machine

/-- The reset values determine a camera's registers (spec/10_state.md R21 to R24). -/
theorem Camera.eq_atReset {c : Config} {k : Camera} (hpan : k.pan.toNat = c.panMax.toNat / 2)
    (htilt : k.tilt.toNat = c.tiltMax.toNat / 2) (hzoom : k.zoom = 0) (hfocus : k.focus.toInt = -1) :
    k = Camera.atReset c := by
  have hpan' : k.pan = panInit c := BitVec.eq_of_toNat_eq (hpan.trans (panInit_toNat c).symm)
  have htilt' : k.tilt = tiltInit c := BitVec.eq_of_toNat_eq (htilt.trans (tiltInit_toNat c).symm)
  have hfocus' : k.focus = focusInit c := BitVec.eq_of_toInt_eq (hfocus.trans (focusInit_toInt c).symm)
  rw [Camera.atReset, zoomInit, ← hpan', ← htilt', ← hfocus', ← hzoom]

/-- Settles O58: the stated values are those the operation writes, and it transmits nothing. -/
theorem resetSetsEveryRegister : Obligations.ResetSetsEveryRegister := by
  intro s k hpan htilt hzoom hfocus
  rw [Camera.eq_atReset hpan htilt hzoom hfocus, exec_reset, State.finish_quiet]
  rfl

end Sys2Proof.Machine
end
